-- ==== Sys2Proof/Word.lean ====
section
/-! DEFINITION. The word types of the engine (00_scope.md R5, R7): bytes of a bus transfer, the 32-bit
registers, and the 64-bit accumulator and binary64 encodings. -/

namespace Sys2Proof

/-- A byte, `u8` (R7): what one place of a bus transfer carries. -/
abbrev Byte := BitVec 8

/-- A 32-bit register or operand (10_state.md R22; `INT_WIDTH` = 32, R5). -/
abbrev Word := BitVec 32

/-- A 64-bit value: the accumulator (`ACC_WIDTH` = 64, R5) or a binary64 encoding (`FP_FORMAT`, R5). -/
abbrev DWord := BitVec 64

end Sys2Proof
end

