-- ==== Sys2Proof/Config.lean ====
section
/-! DEFINITION. What an implementation fixes (00_scope.md R5), and the free values of the model.

Fixed sizes are plain definitions. Parameters with a default and an admitted alternative form `Params`, which
the state carries unchanged (log 2). OPEN parameters and the draws of the environment are opaque constants with
no body: nothing can be proved about their values (log 3, 7, 10). -/

namespace Sys2Proof

/-- `SEQ_LEN`, bytes of a gain clock sequence (R5). -/
def seqLen : Nat := 7

/-- `SAMPLE_LEN`, bytes of a sample transfer's response (R5). -/
def sampleLen : Nat := 10

/-- `BUS_WORD_BITS`, the word-width argument of every `BusConfigure` (R5, R72). -/
def busWordBits : Nat := 8

/-- `PROBE_LEN` has two admitted values, 1 and 10 (R5, 90_conflicts.md C1). -/
inductive ProbeLen where
  | one
  | ten
deriving DecidableEq, Repr

/-- The four LSB bit positions of an inverted response byte that go to nibble bits 3, 2, 1 and 0
(`DECODE_SELECT`, 41_decoder.md R156). -/
structure DecodeSelect where
  bit3 : Fin 8
  bit2 : Fin 8
  bit1 : Fin 8
  bit0 : Fin 8
deriving DecidableEq, Repr

/-- The parameters of R5 that have a default and an admitted alternative. DESIGN CHOICE (log 2), safe: the
state carries them and no step writes them, so a statement about every state holds for every value. -/
structure Params where
  /-- `PROBE_LEN`, default 1 (D20). -/
  probeLen : ProbeLen
  /-- `POLL_LIMIT`: `none` is ∞, the default; an admitted finite value is positive (D21). -/
  pollLimit : Option Nat
  /-- `CAL_USES_OFFSET`, default false (D19). -/
  calUsesOffset : Bool
  /-- `RESET_GAIN`, default 2 (×128) (D34). -/
  resetGain : BitVec 2
  /-- `DECODE_SELECT`, default (1, 3, 5, 7) (D27). -/
  decodeSelect : DecodeSelect
deriving DecidableEq, Repr

/-- The reading of `DECODE_SELECT` that the source's worked example confirms (R156, C5). -/
def defaultSelect : DecodeSelect := { bit3 := 1, bit2 := 3, bit1 := 5, bit0 := 7 }

/-- The defaults of R5. -/
def defaultParams : Params :=
  { probeLen := .one, pollLimit := none, calUsesOffset := false, resetGain := 2, decodeSelect := defaultSelect }

/-- One answer of the bus/device environment to a bus-port transaction (20_memory.md R70 to R73).
`ok` carries ten bytes, the longest response (R77); a transfer takes the first `rxLen` of them, and `BusOpen`
and `BusConfigure` take none (log 3). `pending` is a transaction not answered yet (R291, U19). -/
inductive BusAnswer where
  | pending
  | fail
  | ok (rx : Vector Byte 10)
deriving DecidableEq, Repr, Inhabited

/-- FREE VALUE (log 3): the environment's answer number `n`. Each answer is a draw (R70). -/
opaque Config.busDraw : Nat → BusAnswer

/-- FREE VALUE (log 10): the sign of NaN result number `n` (R191, U6). -/
opaque Config.nanSign : Nat → Bool

/-- FREE VALUE (log 10): the fraction of NaN result number `n`; see `nanBits` for its limit to nonzero. -/
opaque Config.nanFraction : Nat → BitVec 52

/-- OPEN (log 7): bytes 0 to 5 of every gain clock sequence, the same for the three gains (R126.2). -/
opaque Config.gainCommon : Vector Byte 6

/-- OPEN (log 7): byte 6 of the gain clock sequences. As a permutation of the bytes it takes distinct values at
distinct gains (R126.3), and every choice of three distinct bytes is some permutation's. -/
opaque Config.gainLast : Equiv.Perm Byte

/-- OPEN (log 7): `BUS_ID`, an opaque token (R5, R71). -/
opaque Config.busId : Nat

/-- OPEN (log 7): `BUS_FREQ_HZ` (R5, R72). -/
opaque Config.busFreqHz : Nat

/-- OPEN (log 7): `BUS_MODE`, which holds the bit order on the wire too (R5, R72, R76). -/
opaque Config.busMode : Nat

/-- OPEN (log 7, 15): `ENGINE_BASE`, the host address of the window; the engine never sees it (R60). -/
opaque Config.engineBase : Nat

end Sys2Proof
end

