-- ==== Sys2Proof/Syntax.lean ====
section
/-! DEFINITION. The thirteen commands (30_encoding.md R92), one constructor for each row of the opcode table. -/

namespace Sys2Proof

/-- A command. Only INIT and SET_GAIN carry an operand in the word, the gain code G (R90, R93); all the others
read the operand latches (R94). Code 3 is a legal operand whose command fails its argument check (R93, R95). -/
inductive Instr where
  /-- NOP (R210). -/
  | nop
  /-- INIT (R211). -/
  | init (g : BitVec 2)
  /-- SET_GAIN (R212). -/
  | setGain (g : BitVec 2)
  /-- SET_OFFSET (R213). -/
  | setOffset
  /-- SET_SCALE (R214). -/
  | setScale
  /-- GET_OFFSET (R215). -/
  | getOffset
  /-- IS_READY (R131). -/
  | isReady
  /-- READ_ONE (R160). -/
  | readOne
  /-- READ_AVG (R183). -/
  | readAvg
  /-- GET_UNITS (R184). -/
  | getUnits
  /-- TARE (R185). -/
  | tare
  /-- CALIBRATE (R186). -/
  | calibrate
  /-- CLOSE (R216). -/
  | close
deriving DecidableEq, Repr

end Sys2Proof
end

