-- ==== Sys2Proof/WellFormed.lean ====
section
/-! DEFINITION. Which command words are legal (30_encoding.md R95). The type of each operand of `Instr` holds
exactly the values its field can carry, so every `Instr` term is well formed (the round trip of Decode.lean says
so); what can be ill formed is a command WORD, and the three checks of R95 stand here, written apart from the
decoder. -/

namespace Sys2Proof

/-- R95 (a): the opcode byte is one of the thirteen of R92. -/
def opcodeOk (w : Word) : Bool := decide (w.extractLsb' 0 8 < 0x0D#8)

/-- R95 (b): the reserved field, bits 31 to 10, is zero. -/
def reservedOk (w : Word) : Bool := w.extractLsb' 10 22 == 0#22

/-- R95 (c): the gain field, bits 9 to 8, is zero unless the opcode is INIT's or SET_GAIN's. -/
def gainFieldOk (w : Word) : Bool :=
  w.extractLsb' 8 2 == 0#2 || w.extractLsb' 0 8 == 0x01#8 || w.extractLsb' 0 8 == 0x02#8

/-- A legal command word meets all three checks of R95. -/
def legalWord (w : Word) : Bool := opcodeOk w && reservedOk w && gainFieldOk w

end Sys2Proof
end

