-- ==== Sys2Proof/Decode.lean ====
section
/-! DEFINITION. The decoder of command words (30_encoding.md R91, R97), total and refusing by name, and after it
the encoder, written from the opcode map (R90, R92). -/

namespace Sys2Proof

/-- Why a command word is illegal (R95). -/
inductive IllegalWhy where
  /-- bits 31 to 10 are not all zero (R95 b) -/
  | reservedBits
  /-- a nonzero gain field on a command that has none (R95 c) -/
  | strayGain
  /-- an opcode from 0x0D on (R95 a) -/
  | reservedOpcode
deriving DecidableEq, Repr

/-- What a word decodes to: R97's `Command | Illegal`. -/
inductive Decoded where
  | command (i : Instr)
  | illegal (why : IllegalWhy)
deriving DecidableEq, Repr

/-- OPC, bits 7 to 0 (R91). -/
def opcOf (w : Word) : BitVec 8 := w.extractLsb' 0 8

/-- G, bits 9 to 8 (R91). -/
def gOf (w : Word) : BitVec 2 := w.extractLsb' 8 2

/-- RSV, bits 31 to 10 (R91). -/
def rsvOf (w : Word) : BitVec 22 := w.extractLsb' 10 22

/-- The last match of R97: the commands with no gain field. -/
def decodeOpc (opc : BitVec 8) : Decoded :=
  if opc = 0x00#8 then .command .nop
  else if opc = 0x03#8 then .command .setOffset
  else if opc = 0x04#8 then .command .setScale
  else if opc = 0x05#8 then .command .getOffset
  else if opc = 0x06#8 then .command .isReady
  else if opc = 0x07#8 then .command .readOne
  else if opc = 0x08#8 then .command .readAvg
  else if opc = 0x09#8 then .command .getUnits
  else if opc = 0x0A#8 then .command .tare
  else if opc = 0x0B#8 then .command .calibrate
  else if opc = 0x0C#8 then .command .close
  else .illegal .reservedOpcode

/-- The decode procedure of R97, in its order: reserved bits, then INIT and SET_GAIN, then a stray gain field,
then the opcode. -/
def decode (w : Word) : Decoded :=
  if rsvOf w ≠ 0#22 then .illegal .reservedBits
  else if opcOf w = 0x01#8 then .command (.init (gOf w))
  else if opcOf w = 0x02#8 then .command (.setGain (gOf w))
  else if gOf w ≠ 0#2 then .illegal .strayGain
  else decodeOpc (opcOf w)

/-- The word of four bytes in the window's byte order, byte 0 least significant (20_memory.md R62). -/
def wordOfBytes (b0 b1 b2 b3 : Byte) : Word := b3 ++ b2 ++ b1 ++ b0

/-- A command read from the four bytes of its word, lowest address first (R62); a list of another length is no
command word (R61, R90). -/
def decodeBytes : List Byte → Option Decoded
  | [b0, b1, b2, b3] => some (decode (wordOfBytes b0 b1 b2 b3))
  | _ => none

/-- The opcode of R92. -/
def opcodeOf : Instr → BitVec 8
  | .nop => 0x00#8
  | .init _ => 0x01#8
  | .setGain _ => 0x02#8
  | .setOffset => 0x03#8
  | .setScale => 0x04#8
  | .getOffset => 0x05#8
  | .isReady => 0x06#8
  | .readOne => 0x07#8
  | .readAvg => 0x08#8
  | .getUnits => 0x09#8
  | .tare => 0x0A#8
  | .calibrate => 0x0B#8
  | .close => 0x0C#8

/-- The gain field of R90: the operand of INIT and SET_GAIN, zero in every other command (R92). -/
def gainFieldOf : Instr → BitVec 2
  | .nop => 0#2
  | .init g => g
  | .setGain g => g
  | .setOffset => 0#2
  | .setScale => 0#2
  | .getOffset => 0#2
  | .isReady => 0#2
  | .readOne => 0#2
  | .readAvg => 0#2
  | .getUnits => 0#2
  | .tare => 0#2
  | .calibrate => 0#2
  | .close => 0#2

/-- The command word of a command (R90): reserved zeros, gain field, opcode. -/
def encode (i : Instr) : Word := 0#22 ++ gainFieldOf i ++ opcodeOf i

/-- The four bytes of a command word, lowest address first (R62). -/
def encodeBytes (i : Instr) : List Byte :=
  [(encode i).extractLsb' 0 8, (encode i).extractLsb' 8 8, (encode i).extractLsb' 16 8, (encode i).extractLsb' 24 8]

/-- The low `nbits` of `w` as a command word; every bit above them is zero. -/
def tableWord (nbits w : Nat) : Word := BitVec.ofNat 32 (w % 2 ^ nbits)

/-- The command this decoder reads from the opcode table's word: its four bytes, laid out little-endian, given to
`decodeBytes`. -/
def decodeTableWord (nbits w : Nat) : Option Instr :=
  let v := tableWord nbits w
  match decodeBytes [v.extractLsb' 0 8, v.extractLsb' 8 8, v.extractLsb' 16 8, v.extractLsb' 24 8] with
  | some (.command i) => some i
  | _ => none

end Sys2Proof
end

