-- ==== Sys2Proof/Machine/State.lean ====
section
/-! DEFINITION. The state of the engine (10_state.md), plain data, with the two interfaces' records beside it;
the reasons a step can stop; and the state after reset (R44). -/

namespace Sys2Proof.Machine

/-- The error codes of STATUS.ERR (60_exceptions.md R240). Codes 7 to 15 are never written and have no name. -/
inductive ErrCode where
  /-- 0: completed without error -/
  | none
  /-- 1: `BusOpen` or `BusConfigure` answered FAIL -/
  | busUnavailable
  /-- 2: `BusTransfer` answered FAIL -/
  | transferFailed
  /-- 3: a sample response failed validation -/
  | invalidResponse
  /-- 4: n < 1, knownUnits zero, infinite or NaN, or gain code 3 -/
  | invalidArgument
  /-- 5: a finite `POLL_LIMIT` was used up -/
  | notReady
  /-- 6: the command word is illegal -/
  | illegalCmd
deriving DecidableEq, Repr

/-- What a bus cycle is for: the tag of R41. -/
inductive Purpose where
  | trial
  | probe
  | sample
deriving DecidableEq, Repr

/-- What follows the `BusClose` of a bus cycle: the next cycle, or the end of the command with a code. DEDUCED
(log 5): R41 decides it in the step that receives an answer, one or two steps before it takes effect. -/
inductive After where
  | again (p : Purpose)
  | ends (code : ErrCode)
deriving DecidableEq, Repr

/-- PHASE (R41), with the data the sequencer carries to the CLOSE and FINISH steps (log 5). -/
inductive Phase where
  | idle
  | check
  | opening (p : Purpose)
  | config (p : Purpose)
  | xfer (p : Purpose)
  | closing (p : Purpose) (after : After)
  | finish (code : ErrCode)
deriving DecidableEq, Repr

/-- What can come between two reads of a WAIT (70_reset_and_hazards.md R292): an access of another host agent
(60_exceptions.md R254), an engine step, or reset. -/
inductive Turn where
  /-- `MemRead(off, bytes)` (R9) -/
  | read (off bytes : Nat)
  /-- `MemWrite(off, bytes, v)` (R9) -/
  | write (off bytes : Nat) (v : Word)
  /-- the engine takes one step (R65) -/
  | engine
  /-- the reset input is asserted (R270) -/
  | reset
deriving DecidableEq, Repr

/-- One move of the host or of the schedule (00_scope.md R14, 70_reset_and_hazards.md R292). -/
inductive HostMove where
  /-- `MemRead(off, bytes)` (R9) -/
  | read (off bytes : Nat)
  /-- `MemWrite(off, bytes, v)` (R9) -/
  | write (off bytes : Nat) (v : Word)
  /-- the pseudo-instruction WAIT (30_encoding.md R99), with what comes between its reads for as long as it goes
  on: the first list after its first read, and so on (log 20) -/
  | wait (gaps : List (List Turn))
  /-- the host does nothing while the engine takes one step (R65) -/
  | engine
  /-- the reset input is asserted (R270) -/
  | reset
deriving DecidableEq, Repr

/-- A host action that took place, with what a read returned (log 4). -/
inductive HostEvent where
  | read (off : Nat) (v : Word)
  | wrote (off : Nat) (v : Word)
  | reset
deriving DecidableEq, Repr

/-- An answered bus-port transaction, with its arguments and its answer (20_memory.md R71 to R74, log 6). -/
inductive BusEvent where
  | opened (id : Nat) (ok : Bool)
  | configured (freq mode bits : Nat) (ok : Bool)
  /-- `rx` is `none` where the answer was FAIL -/
  | transferred (tx : List Byte) (rxLen : Nat) (rx : Option (List Byte))
  | closed
deriving DecidableEq, Repr

/-- The MODEL's own record of the two agents around the engine; nothing of it is engine state. -/
structure Env where
  /-- the moves still to come; where it is empty the host is silent and the engine steps (log 4) -/
  sched : List HostMove
  /-- host accesses made, newest first -/
  hostLog : List HostEvent
  /-- answers the environment has settled on; where it is empty an answer is a free draw (log 3) -/
  script : List BusAnswer
  /-- how many free values have been drawn -/
  draws : Nat
  /-- answered bus-port transactions, newest first -/
  busLog : List BusEvent
deriving DecidableEq, Repr

/-- The engine (R20): the host window, the sequencer and the calibration registers; then the value carried to
FINISH, the parameters and the environment, which are the model's own. There is no memory (log 8) and no state of the HX711
(R42, log 18). -/
structure State where
  /-- STATUS.BUSY (R24) -/
  busy : Bool
  /-- STATUS.DONE (R24) -/
  done : Bool
  /-- STATUS.OVR (R24) -/
  ovr : Bool
  /-- STATUS.ERR (R24) -/
  err : ErrCode
  /-- ARG_N (R25) -/
  argN : Word
  /-- ARG_INT (R26) -/
  argInt : Word
  /-- ARG_FP_LO (R27) -/
  argFpLo : Word
  /-- ARG_FP_HI (R27) -/
  argFpHi : Word
  /-- RES_INT (R28) -/
  resInt : Word
  /-- RES_FP_LO (R29) -/
  resFpLo : Word
  /-- RES_FP_HI (R29) -/
  resFpHi : Word
  /-- RAW0 (R31) -/
  raw0 : Word
  /-- RAW1 (R31) -/
  raw1 : Word
  /-- RAW2 (R31) -/
  raw2 : Word
  /-- CMD_L (R32) -/
  cmdL : Word
  /-- N_L (R33) -/
  nL : Word
  /-- INT_L (R33) -/
  intL : Word
  /-- FP_L (R33) -/
  fpL : DWord
  /-- GAIN (R34) -/
  gain : BitVec 2
  /-- OFFSET (R35) -/
  offset : Word
  /-- SCALE (R36) -/
  scale : DWord
  /-- ACC (R37) -/
  acc : DWord
  /-- K (R38) -/
  k : Word
  /-- POLLS (R39) -/
  polls : Nat
  /-- HOPEN (R40) -/
  hopen : Bool
  /-- PHASE (R41) -/
  phase : Phase
  /-- the model's own: the probe result or sample carried from XFER to FINISH (log 5) -/
  val : Word
  /-- the model's own: the parameters of R5, which no step writes (log 2) -/
  params : Params
  /-- the model's own: the host's moves and the bus's answers -/
  env : Env
deriving DecidableEq, Repr

/-- The model's own stops, both for states no run reaches (log 9). The engine itself has no trap (R248). -/
inductive Fault where
  /-- A bus-port transaction where R71 to R74 say it is never issued: `BusOpen` with HOPEN = 1, another one with
  HOPEN = 0. Raised by the four bus operations of Machine/Ops.lean. Safe: the model stops. -/
  | handleMisuse
  /-- A phase the running command's pseudocode does not have (a transfer in NOP, or in a trial cycle, R124).
  Raised by `runPlan` in Machine/Ops.lean. Safe: the model stops. -/
  | strayPhase
deriving DecidableEq, Repr

/-- What the model has no meaning for. -/
inductive Refusal where
  /-- An instruction with no meaning yet; raised by an arm of `exec` only. Safe. -/
  | notModelled (mnemonic : String)
  /-- A host access other than an aligned 32-bit access inside the window, which 20_memory.md R61 says a model
  must refuse. Raised by `hostRead` and `hostWrite` in Machine/Window.lean. Safe (log 11). -/
  | undefinedAccess (off bytes : Nat)
deriving DecidableEq, Repr

/-- SCALE's reset value, binary64 1.0 (R36). -/
def scaleOne : DWord := 0x3FF0000000000000#64

/-- Nothing scheduled, nothing recorded, nothing drawn (log 16). -/
def emptyEnv : Env := { sched := [], hostLog := [], script := [], draws := 0, busLog := [] }

/-- The engine right after reset (R44), with the parameters at their defaults (R5). -/
def State.reset : State :=
  { busy := false, done := false, ovr := false, err := .none
    argN := 0, argInt := 0, argFpLo := 0, argFpHi := 0
    resInt := 0, resFpLo := 0, resFpHi := 0
    raw0 := 0, raw1 := 0, raw2 := 0
    cmdL := 0, nL := 0, intL := 0, fpL := 0
    gain := defaultParams.resetGain, offset := 0, scale := scaleOne
    acc := 0, k := 0, polls := 0, hopen := false, phase := .idle
    val := 0, params := defaultParams, env := emptyEnv }

end Sys2Proof.Machine
end

