-- ==== Sys2Proof/Machine/Flags.lean ====
section
/-! DEFINITION. STATUS (10_state.md R24): the word a host reads, the write-one-to-clear rule, and the numbers of
the error codes (60_exceptions.md R240). The engine has no other flag (R43). -/

namespace Sys2Proof.Machine

/-- The number of an error code (R240). -/
def errBits : ErrCode → BitVec 4
  | .none => 0
  | .busUnavailable => 1
  | .transferFailed => 2
  | .invalidResponse => 3
  | .invalidArgument => 4
  | .notReady => 5
  | .illegalCmd => 6

/-- The STATUS word (R24): BUSY bit 0, DONE bit 1, OVR bit 2, ERR bits 11 to 8; reserved bits read 0. -/
def statusWord (s : State) : Word :=
  0#20 ++ errBits s.err ++ 0#5 ++ BitVec.ofBool s.ovr ++ BitVec.ofBool s.done ++ BitVec.ofBool s.busy

/-- A host write of `v` to STATUS (R24): bit 1 clears DONE, bit 2 clears OVR, every other bit is ignored. -/
def writeStatus (v : Word) (s : State) : State :=
  { s with done := s.done && !v.getLsbD 1, ovr := s.ovr && !v.getLsbD 2 }

end Sys2Proof.Machine
end

