-- ==== Sys2Proof/Machine/Float.lean ====
section
/-! DEFINITION. IEEE 754 binary64 as far as the calibration datapath uses it (00_scope.md R8, 42_calibration.md
R191): the conversion of an integer and one division, rounded to nearest, ties to even. A finite value is held
exactly, as a natural multiple of 2^-1074, the smallest subnormal; rounding is one step at the end. -/

namespace Sys2Proof.Machine

/-- The biased exponent field, bits 62 to 52. -/
def f64Exp (x : DWord) : Nat := (x.extractLsb' 52 11).toNat

/-- The fraction field, bits 51 to 0. -/
def f64Frac (x : DWord) : Nat := (x.extractLsb' 0 52).toNat

/-- The sign, bit 63. -/
def f64Neg (x : DWord) : Bool := x.getLsbD 63

/-- NaN: exponent all ones and a nonzero fraction (U6). -/
def f64IsNan (x : DWord) : Bool := f64Exp x == 2047 && f64Frac x != 0

/-- ±∞: exponent all ones and fraction zero. -/
def f64IsInf (x : DWord) : Bool := f64Exp x == 2047 && f64Frac x == 0

/-- ±0.0 (R8: `-0.0 == 0.0` holds). -/
def f64IsZero (x : DWord) : Bool := f64Exp x == 0 && f64Frac x == 0

/-- `is_finite` (R8). -/
def f64IsFinite (x : DWord) : Bool := f64Exp x != 2047

/-- 1.0 in units of 2^-1074. -/
def f64Unit : Nat := 2 ^ 1074

/-- The magnitude of a finite value in units of 2^-1074: subnormal, or 2^52 + fraction scaled by the exponent. -/
def f64Mag (x : DWord) : Nat :=
  if f64Exp x = 0 then f64Frac x else (2 ^ 52 + f64Frac x) * 2 ^ (f64Exp x - 1)

/-- The natural nearest to `n / d`, ties to even. -/
def nearestEven (n d : Nat) : Nat :=
  if d < 2 * (n % d) ∨ (d = 2 * (n % d) ∧ (n / d) % 2 = 1) then n / d + 1 else n / d

/-- The 63 low bits of the binary64 value nearest to `n / d` units of 2^-1074, ties to even; from the largest
finite value's half step on, the encoding of ∞. With `e` the exponent of the last place, the rounded significand
added to `e · 2^52` carries into the exponent field by itself. -/
def f64Round (n d : Nat) : Nat :=
  let e := Nat.log2 (n / d) - 52
  min (e * 2 ^ 52 + nearestEven n (d * 2 ^ e)) (2047 * 2 ^ 52)

/-- A sign and 63 low bits. -/
def f64Pack (neg : Bool) (m : Nat) : DWord := BitVec.ofBool neg ++ BitVec.ofNat 63 m

/-- ±∞ -/
def f64Inf (neg : Bool) : DWord := f64Pack neg (2047 * 2 ^ 52)

/-- ±0.0 -/
def f64Zero (neg : Bool) : DWord := f64Pack neg 0

/-- `to_f64(i)` (R8), exact for every `s32`; zero gives +0.0 (R191). -/
def f64OfInt (i : Int) : DWord := f64Pack (decide (i < 0)) (f64Round (i.natAbs * f64Unit) 1)

/-- `a /f b` (R8, R191); `none` where the result is a NaN, whose encoding is not fixed (U6). -/
def f64Div (a b : DWord) : Option DWord :=
  let neg := f64Neg a != f64Neg b
  if f64IsNan a || f64IsNan b then none
  else if f64IsInf a then (if f64IsInf b then none else some (f64Inf neg))
  else if f64IsInf b then some (f64Zero neg)
  else if f64IsZero b then (if f64IsZero a then none else some (f64Inf neg))
  else some (f64Pack neg (f64Round (f64Mag a * f64Unit) (f64Mag b)))

/-- The NaN encoding of a sign and a fraction; fraction 0 would be an infinity and stands for 1, so that every
value is a NaN encoding and every NaN encoding is the value of some sign and fraction. -/
def nanBits (neg : Bool) (frac : BitVec 52) : DWord :=
  BitVec.ofBool neg ++ (0x7FF#11 ++ (if frac = 0#52 then 1#52 else frac))

end Sys2Proof.Machine
end

