-- ==== Sys2Proof/Machine/Operands.lean ====
section
/-! DEFINITION. The operands of a command (30_encoding.md R94), read from its latches, and the integer results
computed from the accumulator (42_calibration.md R181, R189, R190). -/

namespace Sys2Proof.Machine

/-- ARG_FP: ARG_FP_HI holds bits 63 to 32, ARG_FP_LO bits 31 to 0 (R27). -/
def argFp (s : State) : DWord := s.argFpHi ++ s.argFpLo

/-- RES_FP: RES_FP_HI holds bits 63 to 32, RES_FP_LO bits 31 to 0 (R29). -/
def resFp (s : State) : DWord := s.resFpHi ++ s.resFpLo

/-- `n = N_L` taken as a signed integer (R94). -/
def countN (s : State) : Int := s.nL.toInt

/-- `a quot b`, truncated toward zero (R190). -/
def quot (a b : Int) : Int := Int.tdiv a b

/-- The value `AverageRaw` returns: `trunc_32(ACC quot sext_64(n))` (R181). -/
def averageRaw (s : State) : Word := BitVec.ofInt 32 (quot s.acc.toInt (countN s))

/-- `trunc_32(sext_64(a) - sext_64(OFFSET))`, the wrapping 32-bit difference (R189). -/
def minusOffset (a : Word) (s : State) : Word := a - s.offset

/-- The low half of a 64-bit value, for the register at the lower offset (R62). -/
def loHalf (v : DWord) : Word := v.extractLsb' 0 32

/-- The high half of a 64-bit value, for the register 4 above (R62). -/
def hiHalf (v : DWord) : Word := v.extractLsb' 32 32

end Sys2Proof.Machine
end

