-- ==== Sys2Proof/Machine/Sample.lean ====
section
/-! DEFINITION. The sample decoder (41_decoder.md): validation (R153), bit selection and reversal (R155, R156),
assembly (R157) and sign extension (R158), and the capture words (10_state.md R31). All are pure functions of the
ten response bytes. -/

namespace Sys2Proof.Machine

/-- A response: the ten bytes of a sample transfer (R152), byte 0 first. -/
abbrev Response := Vector Byte 10

/-- R153: some byte of 0 to 6 is nonzero, and bytes 7 to 9 are zero. -/
def validResponse (r : Response) : Bool :=
  (r[0] ||| r[1] ||| r[2] ||| r[3] ||| r[4] ||| r[5] ||| r[6]) != 0#8
    && r[7] == 0#8 && r[8] == 0#8 && r[9] == 0#8

/-- R156: four selected bits of an inverted byte, repacked as nibble bits 3, 2, 1, 0. -/
def nibbleOf (sel : DecodeSelect) (c : Byte) : BitVec 4 :=
  BitVec.ofBool (c.getLsbD sel.bit3) ++ BitVec.ofBool (c.getLsbD sel.bit2)
    ++ BitVec.ofBool (c.getLsbD sel.bit1) ++ BitVec.ofBool (c.getLsbD sel.bit0)

/-- R155 to R157: bytes 0 to 5 inverted, selected and assembled, nibble 0 most significant. -/
def assemble24 (sel : DecodeSelect) (b0 b1 b2 b3 b4 b5 : Byte) : BitVec 24 :=
  nibbleOf sel (~~~b0) ++ nibbleOf sel (~~~b1) ++ nibbleOf sel (~~~b2)
    ++ nibbleOf sel (~~~b3) ++ nibbleOf sel (~~~b4) ++ nibbleOf sel (~~~b5)

/-- R158: the 24-bit two's-complement value widened to 32 bits. -/
def sampleOf (sel : DecodeSelect) (r : Response) : Word :=
  (assemble24 sel r[0] r[1] r[2] r[3] r[4] r[5]).signExtend 32

/-- RAW0: response bytes 0 to 3, byte 0 lowest (R31). -/
def raw0Of (r : Response) : Word := r[3] ++ r[2] ++ r[1] ++ r[0]

/-- RAW1: response bytes 4 to 7 (R31). -/
def raw1Of (r : Response) : Word := r[7] ++ r[6] ++ r[5] ++ r[4]

/-- RAW2: response bytes 8 and 9, bits 31 to 16 zero (R31). -/
def raw2Of (r : Response) : Word := 0#16 ++ r[9] ++ r[8]

end Sys2Proof.Machine
end

