-- ==== Sys2Proof/Machine/Ops.lean ====
section
/-! DEFINITION. The shared operations of the sequencer: the named updates, the environment's answers, the four
bus-port transactions (20_memory.md R71 to R74), ending a command with or without an error (00_scope.md R11,
60_exceptions.md R241), reset (70_reset_and_hazards.md R270), and `runPlan`, one engine step of a command given
by its `Plan`. -/

namespace Sys2Proof.Machine

/-- What one step answers. -/
abbrev Result := Host.Outcome State Fault Refusal

/-! ## Named updates -/

/-- The sequencer's next position (R41). -/
def goto (p : Phase) (s : State) : State := { s with phase := p }

/-- HOPEN <- b (R71, R74). -/
def setHandle (b : Bool) (s : State) : State := { s with hopen := b }

/-- A bus-port transaction was answered (log 6). -/
def logBus (e : BusEvent) (s : State) : State := { s with env := { s.env with busLog := e :: s.env.busLog } }

/-- A host access took place (log 4). -/
def logHost (e : HostEvent) (s : State) : State := { s with env := { s.env with hostLog := e :: s.env.hostLog } }

/-- RAW0 to RAW2 hold the response, all three in one step (R31, R152). -/
def writeRaw (r : Response) (s : State) : State :=
  { s with raw0 := raw0Of r, raw1 := raw1Of r, raw2 := raw2Of r }

/-- RES_FP <- v, both halves in one step (R29). -/
def writeResFp (v : DWord) (s : State) : State := { s with resFpLo := loHalf v, resFpHi := hiHalf v }

/-! ## Draws -/

/-- The environment's next answer: the script's, or a free draw where the script is used up (R70, log 3). -/
def nextAnswer (s : State) : BusAnswer :=
  match s.env.script with
  | a :: _ => a
  | [] => Config.busDraw s.env.draws

/-- The answers still settled on. -/
def setScript (rest : List BusAnswer) (s : State) : State := { s with env := { s.env with script := rest } }

/-- One free value is used up. -/
def bumpDraws (s : State) : State := { s with env := { s.env with draws := s.env.draws + 1 } }

/-- The answer `nextAnswer` gives is used up. -/
def dropAnswer (s : State) : State :=
  match s.env.script with
  | _ :: rest => setScript rest s
  | [] => bumpDraws s

/-- The NaN encoding a NaN result takes, a free value (R191, U6, log 10). -/
def drawnNan (s : State) : DWord := nanBits (Config.nanSign s.env.draws) (Config.nanFraction s.env.draws)

/-- The encoding of a binary64 result: the value, or a drawn NaN. -/
def fpBits (r : Option DWord) (s : State) : DWord :=
  match r with
  | some v => v
  | none => drawnNan s

/-- The state once the encoding of a binary64 result is settled. -/
def fpUsed (r : Option DWord) (s : State) : State :=
  match r with
  | some _ => s
  | none => bumpDraws s

/-! ## Ending a command -/

/-- `raise E` and `complete` where no handle is open (R11): the FINISH step follows. -/
def endCommand (code : ErrCode) (s : State) : State := goto (.finish code) s

/-- With a handle open: the guaranteed close comes first (R11, R121), then what `after` says. -/
def closeThen (p : Purpose) (after : After) (s : State) : State := goto (.closing p after) s

/-- STATUS and PHASE at completion (R241). -/
def completed (code : ErrCode) (s : State) : State :=
  { s with busy := false, done := true, err := code, phase := .idle }

/-- The FINISH step (R241): a successful command's writes take effect together, an error writes nothing but its
code (R45, R242). -/
def finishStep (effect : State → State) (code : ErrCode) (s : State) : State :=
  completed code (if code = .none then effect s else s)

/-! ## Bus-port transactions -/

/-- `BusOpen(BUS_ID)` of a cycle for `p` (R71, R120, R124). -/
def busOpen (p : Purpose) (s : State) : Result :=
  if s.hopen then .fault .handleMisuse
  else match nextAnswer s with
    | .pending => .next (dropAnswer s)
    | .fail => .next (endCommand .busUnavailable (logBus (.opened Config.busId false) (dropAnswer s)))
    | .ok _ => .next (goto (.config p) (setHandle true (logBus (.opened Config.busId true) (dropAnswer s))))

/-- The `BusConfigure` event with the constant arguments of R72. -/
def configuredEvent (ok : Bool) : BusEvent :=
  .configured Config.busFreqHz Config.busMode busWordBits ok

/-- After a successful `BusConfigure`: the transfer, or in a trial cycle the close (R120, R124). -/
def afterConfig (p : Purpose) (s : State) : State :=
  match p with
  | .trial => closeThen .trial (.ends .none) s
  | .probe => goto (.xfer .probe) s
  | .sample => goto (.xfer .sample) s

/-- `BusConfigure(BUS_FREQ_HZ, BUS_MODE, 8)` (R72, R120, R124). -/
def busConfigure (p : Purpose) (s : State) : Result :=
  if !s.hopen then .fault .handleMisuse
  else match nextAnswer s with
    | .pending => .next (dropAnswer s)
    | .fail => .next (closeThen p (.ends .busUnavailable) (logBus (configuredEvent false) (dropAnswer s)))
    | .ok _ => .next (afterConfig p (logBus (configuredEvent true) (dropAnswer s)))

/-- `BusTransfer(tx, len(tx))` (R73, R120); `received` is the rest of the step that receives the answer. -/
def busTransfer (p : Purpose) (tx : List Byte) (received : Response → State → State) (s : State) : Result :=
  if !s.hopen then .fault .handleMisuse
  else match nextAnswer s with
    | .pending => .next (dropAnswer s)
    | .fail => .next (closeThen p (.ends .transferFailed) (logBus (.transferred tx tx.length none) (dropAnswer s)))
    | .ok rx =>
      .next (received rx (logBus (.transferred tx tx.length (some (rx.toList.take tx.length))) (dropAnswer s)))

/-- The phase that follows a `BusClose`. -/
def phaseAfter : After → Phase
  | .again p => .opening p
  | .ends code => .finish code

/-- `BusClose()` (R74), which always completes. -/
def busClose (after : After) (s : State) : Result :=
  if !s.hopen then .fault .handleMisuse
  else .next (goto (phaseAfter after) (setHandle false (logBus .closed s)))

/-! ## What a transfer sends, and the step that receives its answer -/

/-- `PROBE_LEN` as a number (R5). -/
def probeLen (s : State) : Nat :=
  match s.params.probeLen with
  | .one => 1
  | .ten => 10

/-- The bytes of a probe: `PROBE_LEN` zeros (40_transport.md R129). -/
def probeTx (s : State) : List Byte := List.replicate (probeLen s) 0#8

/-- R129: ready iff every byte of the response is zero. -/
def probeReady (rx : Response) (s : State) : Bool := (rx.toList.take (probeLen s)).all (· == 0#8)

/-- The gain clock sequence (R125), met by R126 through its two OPEN parts. -/
def gainSeq (g : BitVec 2) : List Byte := Config.gainCommon.toList ++ [Config.gainLast (g.setWidth 8)]

/-- The bytes of a sample transfer: the sequence of the gain and three zeros (41_decoder.md R152). -/
def sampleTx (s : State) : List Byte := gainSeq s.gain ++ [0#8, 0#8, 0#8]

/-- The poll decision (R150): ready goes on to the sample; not ready counts, and either gives up at a finite
`POLL_LIMIT` or probes again. -/
def pollDecision (ready : Bool) (s : State) : State :=
  if ready then closeThen .probe (.again .sample) s
  else
    let s' := { s with polls := s.polls + 1 }
    match s.params.pollLimit with
    | none => closeThen .probe (.again .probe) s'
    | some limit =>
      if limit ≤ s.polls + 1 then closeThen .probe (.ends .notReady) s' else closeThen .probe (.again .probe) s'

/-- POLLS <- 0, the start of a poll loop (R150). DEDUCED in which step (log 21). -/
def startPoll (s : State) : State := { s with polls := 0 }

/-- ACC <- 0; K <- 0, the start of an average, and of its first sample's poll loop (42_calibration.md R181). Nothing
else sets them, so between commands they keep what was there (log 12). -/
def startAverage (s : State) : State := startPoll { s with acc := 0, k := 0 }

/-- ACC <- ACC + sext_64(s); K <- K + 1 (R181). -/
def accumulate (v : Word) (s : State) : State := { s with acc := s.acc + v.signExtend 64, k := s.k + 1 }

/-- The averaging loop's turn on a sample (R181): another sample while K < n, else the end. -/
def averageSample (v : Word) (s : State) : State :=
  let s' := accumulate v s
  if (s'.k.toNat : Int) < countN s' then closeThen .sample (.again .probe) (startPoll s')
  else closeThen .sample (.ends .none) s'

/-! ## Commands -/

/-- A command's part in the sequencer's steps. No state holds one. -/
structure Plan where
  /-- the bus cycles the command may make; the first is the one CHECK leads to -/
  cycles : List Purpose
  /-- the argument checks of R243; `none` lets the command go on -/
  check : State → ErrCode
  /-- the registers its procedure sets before the first bus cycle -/
  start : State → State
  /-- the step that receives a probe's answer -/
  probed : Bool → State → State
  /-- the step that receives a valid sample -/
  sampled : Word → State → State
  /-- what FINISH writes at success (R45) -/
  effect : State → State

/-- The CHECK step (R243): an argument error, or the first bus cycle, or for a command without one its end. -/
def checkStep (c : Plan) (s : State) : State :=
  if c.check s = .none then
    match c.cycles with
    | [] => endCommand .none s
    | p :: _ => goto (.opening p) (c.start s)
  else endCommand (c.check s) s

/-- The step that receives a sample transfer's answer: capture, then validation, then the decoded sample
(R152, R153, R154, R159). -/
def sampleReceived (c : Plan) (r : Response) (s : State) : State :=
  if validResponse r then c.sampled (sampleOf s.params.decodeSelect r) (writeRaw r s)
  else closeThen .sample (.ends .invalidResponse) (writeRaw r s)

/-- The XFER step (R129, R152); a trial cycle has none (R124). -/
def transferStep (c : Plan) (p : Purpose) (s : State) : Result :=
  match p with
  | .trial => .fault .strayPhase
  | .probe => busTransfer .probe (probeTx s) (fun rx t => c.probed (probeReady rx t) t) s
  | .sample => busTransfer .sample (sampleTx s) (sampleReceived c) s

/-- One engine step of the command `c` (R41). An idle engine has no step to take (R30). -/
def runPlan (c : Plan) (s : State) : Result :=
  match s.phase with
  | .idle => .next s
  | .check => .next (checkStep c s)
  | .opening p => if p ∈ c.cycles then busOpen p s else .fault .strayPhase
  | .config p => if p ∈ c.cycles then busConfigure p s else .fault .strayPhase
  | .xfer p => if p ∈ c.cycles then transferStep c p s else .fault .strayPhase
  | .closing p after => if p ∈ c.cycles then busClose after s else .fault .strayPhase
  | .finish code => .next (finishStep c.effect code s)

/-- A command with no bus cycle (43_accessors.md R217). -/
def accessorPlan (check : State → ErrCode) (effect : State → State) : Plan :=
  { cycles := [], check := check, start := id, probed := fun _ => id, sampled := fun _ => id, effect := effect }

/-- A reading command that averages N_L samples (R180 to R182). -/
def averagePlan (check : State → ErrCode) (effect : State → State) : Plan :=
  { cycles := [.probe, .sample], check := check, start := startAverage, probed := pollDecision,
    sampled := averageSample, effect := effect }

/-- An illegal word's command (R95, R243): ILLEGAL_CMD in CHECK, no bus transaction. -/
def illegalPlan : Plan := accessorPlan (fun _ => .illegalCmd) id

/-! ## Acceptance, rejection, reset -/

/-- Acceptance of the command word `v` (60_exceptions.md R246). -/
def acceptCommand (v : Word) (s : State) : State :=
  { s with cmdL := v, nL := s.argN, intL := s.argInt, fpL := argFp s,
           busy := true, done := false, err := .none, phase := .check }

/-- A host write to CMD: accepted when idle (R246), else rejected with OVR (R247). -/
def writeCmd (v : Word) (s : State) : State :=
  if s.busy then { s with ovr := true } else acceptCommand v s

/-- The reset input (R270, R271, R273): every register of R44, and the close of an open handle. The environment
and the parameters are not the engine's and stay (log 16). -/
def assertReset (s : State) : State :=
  let e := { s.env with hostLog := .reset :: s.env.hostLog }
  { State.reset with
    gain := s.params.resetGain
    params := s.params
    env := if s.hopen then { e with busLog := .closed :: e.busLog } else e }

end Sys2Proof.Machine
end

