-- ==== Sys2Proof/Machine/Accessors.lean ====
section
/-! DEFINITION. Lifecycle and accessor commands (43_accessors.md). Each meaning is one engine step of the
command, as its phase says (log 1). -/

namespace Sys2Proof.Machine

/-- No argument check. -/
def noCheck (_ : State) : ErrCode := .none

/-- Gain code 3 names no gain (30_encoding.md R93). -/
def gainCheck (g : BitVec 2) (_ : State) : ErrCode := if g = 3#2 then .invalidArgument else .none

/-- NOP (R210): nothing but STATUS. -/
def planNop : Plan := accessorPlan noCheck id

/-- NOP (R210). -/
def execNop (s : State) : Result := runPlan planNop s

/-- INIT (R211): the trial cycle of 40_transport.md R124, then GAIN, OFFSET and SCALE in one step. -/
def planInit (g : BitVec 2) : Plan :=
  { cycles := [.trial], check := gainCheck g, start := id, probed := fun _ => id, sampled := fun _ => id,
    effect := fun s => { s with gain := g, offset := 0, scale := scaleOne } }

/-- INIT (R211). -/
def execInit (g : BitVec 2) (s : State) : Result := runPlan (planInit g) s

/-- SET_GAIN (R212): GAIN <- g. -/
def planSetGain (g : BitVec 2) : Plan := accessorPlan (gainCheck g) (fun s => { s with gain := g })

/-- SET_GAIN (R212). -/
def execSetGain (g : BitVec 2) (s : State) : Result := runPlan (planSetGain g) s

/-- SET_OFFSET (R213): OFFSET <- INT_L. -/
def planSetOffset : Plan := accessorPlan noCheck (fun s => { s with offset := s.intL })

/-- SET_OFFSET (R213). -/
def execSetOffset (s : State) : Result := runPlan planSetOffset s

/-- SET_SCALE (R214): SCALE <- FP_L, the 64 bits unchanged. -/
def planSetScale : Plan := accessorPlan noCheck (fun s => { s with scale := s.fpL })

/-- SET_SCALE (R214). -/
def execSetScale (s : State) : Result := runPlan planSetScale s

/-- GET_OFFSET (R215): RES_INT <- OFFSET. -/
def planGetOffset : Plan := accessorPlan noCheck (fun s => { s with resInt := s.offset })

/-- GET_OFFSET (R215). -/
def execGetOffset (s : State) : Result := runPlan planGetOffset s

/-- CLOSE (R216): nothing but STATUS; no handle is open when a command starts (R40). -/
def planClose : Plan := accessorPlan noCheck id

/-- CLOSE (R216). -/
def execClose (s : State) : Result := runPlan planClose s

end Sys2Proof.Machine
end

