-- ==== Sys2Proof/Machine/Reading.lean ====
section
/-! DEFINITION. IS_READY (40_transport.md R131) and READ_ONE (41_decoder.md R160). -/

namespace Sys2Proof.Machine

/-- IS_READY's step on a probe's answer: 1 or 0, and never another cycle (R131). -/
def isReadyProbed (ready : Bool) (s : State) : State :=
  closeThen .probe (.ends .none) { s with val := if ready then 1#32 else 0#32 }

/-- IS_READY (R131): one probe cycle, no poll loop, RES_INT <- 1 or 0. -/
def planIsReady : Plan :=
  { cycles := [.probe], check := noCheck, start := id, probed := isReadyProbed, sampled := fun _ => id,
    effect := fun s => { s with resInt := s.val } }

/-- IS_READY (R131). -/
def execIsReady (s : State) : Result := runPlan planIsReady s

/-- READ_ONE's step on a valid sample (R159, R160). -/
def readOneSampled (v : Word) (s : State) : State := closeThen .sample (.ends .none) { s with val := v }

/-- READ_ONE (R160): the poll loop, one sample cycle, RES_INT <- the raw sample. -/
def planReadOne : Plan :=
  { cycles := [.probe, .sample], check := noCheck, start := startPoll, probed := pollDecision,
    sampled := readOneSampled, effect := fun s => { s with resInt := s.val } }

/-- READ_ONE (R160). -/
def execReadOne (s : State) : Result := runPlan planReadOne s

end Sys2Proof.Machine
end

