-- ==== Sys2Proof/Machine/Calibration.lean ====
section
/-! DEFINITION. The calibrated reader (42_calibration.md): READ_AVG, GET_UNITS, TARE and CALIBRATE. -/

namespace Sys2Proof.Machine

/-- The sample-count check (R180): n < 1 is INVALID_ARGUMENT. -/
def countCheck (s : State) : ErrCode := if countN s < 1 then .invalidArgument else .none

/-- CALIBRATE's checks, n first, then `knownUnits` zero, infinite or NaN (R186, R192, R243). -/
def calibrateCheck (s : State) : ErrCode :=
  if countN s < 1 then .invalidArgument
  else if !f64IsFinite s.fpL || f64IsZero s.fpL then .invalidArgument
  else .none

/-- READ_AVG (R183): RES_INT <- average - OFFSET, wrapping (R189). -/
def planReadAvg : Plan :=
  averagePlan countCheck (fun s => { s with resInt := minusOffset (averageRaw s) s })

/-- READ_AVG (R183). -/
def execReadAvg (s : State) : Result := runPlan planReadAvg s

/-- GET_UNITS's quotient: to_f64(average - OFFSET) / SCALE; `none` is a NaN (R184, R191). -/
def unitsQuotient (s : State) : Option DWord :=
  f64Div (f64OfInt (minusOffset (averageRaw s) s).toInt) s.scale

/-- GET_UNITS (R184): RES_FP <- the quotient, both halves in one step. -/
def planGetUnits : Plan :=
  averagePlan countCheck
    (fun s => writeResFp (fpBits (unitsQuotient s) s) (fpUsed (unitsQuotient s) s))

/-- GET_UNITS (R184). -/
def execGetUnits (s : State) : Result := runPlan planGetUnits s

/-- TARE (R185): OFFSET <- average, without offset subtraction. -/
def planTare : Plan := averagePlan countCheck (fun s => { s with offset := averageRaw s })

/-- TARE (R185). -/
def execTare (s : State) : Result := runPlan planTare s

/-- The average CALIBRATE divides: raw, or offset-adjusted when `CAL_USES_OFFSET` (R186, R193). -/
def calibrateAverage (s : State) : Word :=
  if s.params.calUsesOffset then minusOffset (averageRaw s) s else averageRaw s

/-- CALIBRATE's quotient: to_f64(b) / u; `none` would be a NaN (R186, R191). -/
def scaleQuotient (s : State) : Option DWord := f64Div (f64OfInt (calibrateAverage s).toInt) s.fpL

/-- CALIBRATE (R186): SCALE <- the quotient. -/
def planCalibrate : Plan :=
  averagePlan calibrateCheck
    (fun s => { fpUsed (scaleQuotient s) s with scale := fpBits (scaleQuotient s) s })

/-- CALIBRATE (R186). -/
def execCalibrate (s : State) : Result := runPlan planCalibrate s

end Sys2Proof.Machine
end

