-- ==== Sys2Proof/Machine/Dispatch.lean ====
section
/-! DEFINITION. One engine step of a decoded command (10_state.md R41), one arm for each row of the opcode table. -/

namespace Sys2Proof.Machine

def exec (i : Instr) (s : State) : Host.Outcome State Fault Refusal :=
  match i with
  | .nop => Sys2Proof.Machine.execNop s
  | .init g => Sys2Proof.Machine.execInit g s
  | .setGain g => Sys2Proof.Machine.execSetGain g s
  | .setOffset => Sys2Proof.Machine.execSetOffset s
  | .setScale => Sys2Proof.Machine.execSetScale s
  | .getOffset => Sys2Proof.Machine.execGetOffset s
  | .isReady => Sys2Proof.Machine.execIsReady s
  | .readOne => Sys2Proof.Machine.execReadOne s
  | .readAvg => Sys2Proof.Machine.execReadAvg s
  | .getUnits => Sys2Proof.Machine.execGetUnits s
  | .tare => Sys2Proof.Machine.execTare s
  | .calibrate => Sys2Proof.Machine.execCalibrate s
  | .close => Sys2Proof.Machine.execClose s

end Sys2Proof.Machine
end

