-- ==== Sys2Proof/Machine/Window.lean ====
section
/-! DEFINITION. The host register window (10_state.md R22, 20_memory.md R60 to R64). -/

namespace Sys2Proof.Machine

/-- The registers of the window (R22). -/
inductive HostReg where
  | cmd
  | status
  | argN
  | argInt
  | argFpLo
  | argFpHi
  | resInt
  | resFpLo
  | resFpHi
  | raw0
  | raw1
  | raw2
  | reserved
deriving DecidableEq, Repr

/-- The register at an offset of the window (R22); the offsets with no name are reserved. -/
def regAt (off : Nat) : HostReg :=
  if off = 0x00 then .cmd
  else if off = 0x04 then .status
  else if off = 0x08 then .argN
  else if off = 0x0C then .argInt
  else if off = 0x10 then .argFpLo
  else if off = 0x14 then .argFpHi
  else if off = 0x18 then .resInt
  else if off = 0x20 then .resFpLo
  else if off = 0x24 then .resFpHi
  else if off = 0x28 then .raw0
  else if off = 0x2C then .raw1
  else if off = 0x30 then .raw2
  else .reserved

/-- A register as the host reads it: CMD and reserved offsets read 0 (R22, R63). -/
def readReg (r : HostReg) (s : State) : Word :=
  match r with
  | .cmd => 0#32
  | .status => statusWord s
  | .argN => s.argN
  | .argInt => s.argInt
  | .argFpLo => s.argFpLo
  | .argFpHi => s.argFpHi
  | .resInt => s.resInt
  | .resFpLo => s.resFpLo
  | .resFpHi => s.resFpHi
  | .raw0 => s.raw0
  | .raw1 => s.raw1
  | .raw2 => s.raw2
  | .reserved => 0#32

/-- What a host write does: a command, a W1C clear, a stored operand; a write to a read-only or reserved place
is ignored (R22, R23, R63). -/
def writeReg (r : HostReg) (v : Word) (s : State) : State :=
  match r with
  | .cmd => writeCmd v s
  | .status => writeStatus v s
  | .argN => { s with argN := v }
  | .argInt => { s with argInt := v }
  | .argFpLo => { s with argFpLo := v }
  | .argFpHi => { s with argFpHi := v }
  | .resInt => s
  | .resFpLo => s
  | .resFpHi => s
  | .raw0 => s
  | .raw1 => s
  | .raw2 => s
  | .reserved => s

/-- R61: the only defined host access is 32 bits wide, 4-byte aligned, at an offset up to 0x3C. -/
def definedAccess (off bytes : Nat) : Bool := bytes == 4 && off % 4 == 0 && decide (off ≤ 0x3C)

/-- `MemRead(off, bytes)`: no side effect on the engine (R64); the value goes to the host (log 4). -/
def hostRead (off bytes : Nat) (s : State) : Result :=
  if definedAccess off bytes then .next (logHost (.read off (readReg (regAt off) s)) s)
  else .refused (.undefinedAccess off bytes)

/-- `MemWrite(off, bytes, v)` (R64). -/
def hostWrite (off bytes : Nat) (v : Word) (s : State) : Result :=
  if definedAccess off bytes then .next (writeReg (regAt off) v (logHost (.wrote off v) s))
  else .refused (.undefinedAccess off bytes)

/-- The byte a host sees at an address of its own space (R60, R62): byte `k` of the register at `off` stands at
`ENGINE_BASE + off + k`; `none` outside the window (log 15). -/
def windowByte (addr : Nat) (s : State) : Option Byte :=
  if Config.engineBase ≤ addr ∧ addr < Config.engineBase + 64 then
    let d := addr - Config.engineBase
    some ((readReg (regAt (4 * (d / 4))) s).extractLsb' (8 * (d % 4)) 8)
  else none

end Sys2Proof.Machine
end

