-- ==== Sys2Proof/Machine/Sequencer.lean ====
section
/-! DEFINITION. The engine's step on its latched command word (60_exceptions.md R243), and the host's moves
(70_reset_and_hazards.md R292). -/

namespace Sys2Proof.Machine

/-- One engine step: `exec` of the command CMD_L decodes to, or the step of an illegal word (R95, R243). -/
def engineStep (s : State) : Result :=
  match decode s.cmdL with
  | .command i => exec i s
  | .illegal _ => runPlan illegalPlan s

/-- A turn as a move of the schedule. -/
def turnMove : Turn → HostMove
  | .read off bytes => .read off bytes
  | .write off bytes v => .write off bytes v
  | .engine => .engine
  | .reset => .reset

/-- What comes before the next read of a WAIT: the turns its schedule gives, reset among them where the reset input
is asserted (R292); past the schedule's end one engine step (log 20). -/
def gapMoves : List (List Turn) → List HostMove
  | [] => [.engine]
  | g :: _ => g.map turnMove

/-- WAIT (30_encoding.md R99): reads STATUS; while the BUSY it reads is 1 it repeats. -/
def hostWait (gaps : List (List Turn)) (s : State) : State :=
  let t := logHost (.read 0x04 (statusWord s)) s
  if s.busy then { t with env := { t.env with sched := gapMoves gaps ++ .wait gaps.tail :: t.env.sched } } else t

/-- One move, already taken off the schedule (R65: each is atomic). -/
def performMove (m : HostMove) (s : State) : Result :=
  match m with
  | .read off bytes => hostRead off bytes s
  | .write off bytes v => hostWrite off bytes v s
  | .wait gaps => .next (hostWait gaps s)
  | .engine => engineStep s
  | .reset => .next (assertReset s)

/-- The schedule goes on after its first move. -/
def dropMove (rest : List HostMove) (s : State) : State := { s with env := { s.env with sched := rest } }

/-- One atomic event of the interleaving (R14, R65, R67): the schedule's next move, or an engine step where the
host is silent (log 4). -/
def scheduledStep (s : State) : Result :=
  match s.env.sched with
  | [] => engineStep s
  | m :: rest => performMove m (dropMove rest s)

/-- The state in which `v` is the running command and the very next step is its first (log 19): what acceptance
of `v` leaves (R246); where the host has moves to come, the engine's step goes before them. -/
def fetchWord (v : Word) (s : State) : State :=
  let t := acceptCommand v s
  match t.env.sched with
  | [] => t
  | m :: ms => { t with env := { t.env with sched := .engine :: m :: ms } }

end Sys2Proof.Machine
end

