-- ==== Sys2Proof/Machine/Step.lean ====
section
/-! DEFINITION. The machine's step: one host access or one engine step (20_memory.md R65, R67). -/

namespace Sys2Proof.Machine

/-- One step of the machine. -/
def step (s : State) : Host.Outcome State Fault Refusal := scheduledStep s

/-- `s` with the opcode table's word as the running command, so that the next step runs it (log 19). -/
def State.withFetchWord (s : State) (nbits w : Nat) : State := fetchWord (tableWord nbits w) s

end Sys2Proof.Machine
end

