-- ==== Sys2Proof/Machine/Assembler.lean ====
section
/-! DEFINITION. The host's assembler lines (30_encoding.md R98, R99), expanded into moves. Not a behaviour of the
engine (D38): it says which accesses a line of a host program performs. -/

namespace Sys2Proof.Machine

/-- The offset of a register by its name (10_state.md R22); for a reserved place, the first of the four. -/
def offOf : HostReg → Nat
  | .cmd => 0x00
  | .status => 0x04
  | .argN => 0x08
  | .argInt => 0x0C
  | .argFpLo => 0x10
  | .argFpHi => 0x14
  | .resInt => 0x18
  | .reserved => 0x1C
  | .resFpLo => 0x20
  | .resFpHi => 0x24
  | .raw0 => 0x28
  | .raw1 => 0x2C
  | .raw2 => 0x30

/-- A line of a host program (R98, R99). -/
inductive AsmLine where
  /-- `WR <reg>, <value>` -/
  | wr (r : HostReg) (v : Word)
  /-- `WR CMD, <mnemonic>` -/
  | wrCmd (i : Instr)
  /-- `RD <reg>` -/
  | rd (r : HostReg)
  /-- `WAIT` -/
  | waitIdle
  /-- `EXEC <cmd>` -/
  | execCmd (i : Instr)
  /-- `WR64 ARG_FP, <f64>` -/
  | wr64 (f : DWord)
  /-- `RD64 RES_FP` -/
  | rd64
  /-- `ACK` -/
  | ack
deriving DecidableEq, Repr

/-- The accesses a line performs (R98, R99), with a WAIT that one engine step at a time interrupts; other schedules
of the same program give the WAIT other gaps (log 20). -/
def expandLine : AsmLine → List HostMove
  | .wr r v => [.write (offOf r) 4 v]
  | .wrCmd i => [.write (offOf .cmd) 4 (encode i)]
  | .rd r => [.read (offOf r) 4]
  | .waitIdle => [.wait []]
  | .execCmd i => [.write (offOf .cmd) 4 (encode i), .wait []]
  | .wr64 f => [.write (offOf .argFpLo) 4 (loHalf f), .write (offOf .argFpHi) 4 (hiHalf f)]
  | .rd64 => [.read (offOf .resFpLo) 4, .read (offOf .resFpHi) 4]
  | .ack => [.write (offOf .status) 4 0x00000006#32]

/-- The moves of a host program. -/
def expandProgram (p : List AsmLine) : List HostMove := p.flatMap expandLine

/-- `s` with the host about to run the program. -/
def loadProgram (p : List AsmLine) (s : State) : State := dropMove (expandProgram p) s

end Sys2Proof.Machine
end

