-- ==== Sys2Proof/Safety.lean ====
section
/-! DEFINITION. What counts as a coherent state, a legal bus trace and an end of a run, in the terms the
statements use. Nothing here has a part in the machine's step. -/

namespace Sys2Proof.Machine

/-! ## The running command -/

/-- The plan behind each command's meaning. -/
def planOf : Instr → Plan
  | .nop => planNop
  | .init g => planInit g
  | .setGain g => planSetGain g
  | .setOffset => planSetOffset
  | .setScale => planSetScale
  | .getOffset => planGetOffset
  | .isReady => planIsReady
  | .readOne => planReadOne
  | .readAvg => planReadAvg
  | .getUnits => planGetUnits
  | .tare => planTare
  | .calibrate => planCalibrate
  | .close => planClose

/-- The plan of the latched command word. -/
def runningPlan (s : State) : Plan :=
  match decode s.cmdL with
  | .command i => planOf i
  | .illegal _ => illegalPlan

/-- READ_AVG, GET_UNITS, TARE and CALIBRATE (42_calibration.md R180). -/
def isAveraging : Instr → Bool
  | .nop => false
  | .init _ => false
  | .setGain _ => false
  | .setOffset => false
  | .setScale => false
  | .getOffset => false
  | .isReady => false
  | .readOne => false
  | .readAvg => true
  | .getUnits => true
  | .tare => true
  | .calibrate => true
  | .close => false

/-! ## Coherence: R30, R34, R40, R41, R243 -/

/-- The phases inside a bus cycle after its open (R40). -/
def holdsHandle : Phase → Bool
  | .idle => false
  | .check => false
  | .opening _ => false
  | .config _ => true
  | .xfer _ => true
  | .closing _ _ => true
  | .finish _ => false

/-- The phase is one the command's pseudocode has, and beyond CHECK the argument checks have passed (R243). -/
def PhaseFits (c : Plan) (s : State) : Prop :=
  match s.phase with
  | .idle => True
  | .check => True
  | .opening p => p ∈ c.cycles ∧ c.check s = .none
  | .config p => p ∈ c.cycles ∧ c.check s = .none
  | .xfer p => p ∈ c.cycles ∧ p ≠ .trial ∧ c.check s = .none
  | .closing p (.again q) => p ∈ c.cycles ∧ q ∈ c.cycles ∧ c.check s = .none
  | .closing p (.ends _) => p ∈ c.cycles ∧ c.check s = .none
  | .finish code => code = .none → c.check s = .none

/-- What holds in every state a run reaches, whatever the host and the bus do. -/
structure Coherent (s : State) : Prop where
  /-- PHASE = IDLE exactly when BUSY = 0 (R41) -/
  busy_iff : s.busy = true ↔ s.phase ≠ .idle
  /-- HOPEN = 1 exactly inside a bus cycle; so HOPEN = 0 whenever BUSY = 0 (R40) -/
  hopen_eq : s.hopen = holdsHandle s.phase
  /-- GAIN never holds 3 (R34) -/
  gain_ne : s.gain ≠ 3#2
  /-- `RESET_GAIN` names a gain (R5, log 17) -/
  resetGain_ne : s.params.resetGain ≠ 3#2
  /-- the phase fits the running command -/
  fits : PhaseFits (runningPlan s) s

/-! ## Error codes: the "raised by" column of R240 -/

/-- The operands a command's argument checks refuse: gain code 3 (R93); n < 1 (R180); and for CALIBRATE a
knownUnits that is zero, infinite or a NaN, said on its bits (R192). -/
def ArgumentError : Instr → State → Prop
  | .nop, _ => False
  | .init g, _ => g = 3#2
  | .setGain g, _ => g = 3#2
  | .setOffset, _ => False
  | .setScale, _ => False
  | .getOffset, _ => False
  | .isReady, _ => False
  | .readOne, _ => False
  | .readAvg, s => s.nL.toInt < 1
  | .getUnits, s => s.nL.toInt < 1
  | .tare, s => s.nL.toInt < 1
  | .calibrate, s =>
    s.nL.toInt < 1 ∨ s.fpL.extractLsb' 52 11 = 0x7FF#11 ∨ s.fpL.extractLsb' 0 63 = 0#63
  | .close, _ => False

/-- Where a command's CHECK step leads without an argument error: its first bus cycle, or its completion (R243). -/
def firstPhase : Instr → Phase
  | .nop => .finish .none
  | .init _ => .opening .trial
  | .setGain _ => .finish .none
  | .setOffset => .finish .none
  | .setScale => .finish .none
  | .getOffset => .finish .none
  | .isReady => .opening .probe
  | .readOne => .opening .probe
  | .readAvg => .opening .probe
  | .getUnits => .opening .probe
  | .tare => .opening .probe
  | .calibrate => .opening .probe
  | .close => .finish .none

/-- The codes a command may complete with (R240). -/
def raisable : Instr → List ErrCode
  | .nop => [.none]
  | .init _ => [.none, .busUnavailable, .invalidArgument]
  | .setGain _ => [.none, .invalidArgument]
  | .setOffset => [.none]
  | .setScale => [.none]
  | .getOffset => [.none]
  | .isReady => [.none, .busUnavailable, .transferFailed]
  | .readOne => [.none, .busUnavailable, .transferFailed, .invalidResponse, .notReady]
  | .readAvg => [.none, .busUnavailable, .transferFailed, .invalidResponse, .invalidArgument, .notReady]
  | .getUnits => [.none, .busUnavailable, .transferFailed, .invalidResponse, .invalidArgument, .notReady]
  | .tare => [.none, .busUnavailable, .transferFailed, .invalidResponse, .invalidArgument, .notReady]
  | .calibrate => [.none, .busUnavailable, .transferFailed, .invalidResponse, .invalidArgument, .notReady]
  | .close => [.none]

/-- The code the running command is about to end with, where its end is settled. -/
def endingCode : Phase → Option ErrCode
  | .idle => none
  | .check => none
  | .opening _ => none
  | .config _ => none
  | .xfer _ => none
  | .closing _ (.again _) => none
  | .closing _ (.ends code) => some code
  | .finish code => some code

/-- The ending code is one R240 lets the running command raise: an illegal word ends with ILLEGAL_CMD and nothing
else, and NOT_READY needs a finite `POLL_LIMIT`. -/
def CodesFit (s : State) : Prop :=
  ∀ code, endingCode s.phase = some code →
    (match decode s.cmdL with
      | .command i => code ∈ raisable i
      | .illegal _ => code = .illegalCmd)
    ∧ (code = .notReady → s.params.pollLimit ≠ none)

/-! ## The bus trace: R71 to R77, R120 to R124 -/

/-- Where a bus trace stands: no handle; a handle not configured yet; configured, nothing transferred; a handle
that can only be closed. -/
inductive BusPos where
  | closed
  | opened
  | ready
  | spent
deriving DecidableEq, Repr

/-- The transactions the rules allow at each point; `none` is a breach. -/
def busMove : BusPos → BusEvent → Option BusPos
  | .closed, .opened _ true => some .opened
  | .closed, .opened _ false => some .closed
  | .opened, .configured _ _ _ true => some .ready
  | .opened, .configured _ _ _ false => some .spent
  | .ready, .transferred _ _ _ => some .spent
  | .opened, .closed => some .closed
  | .ready, .closed => some .closed
  | .spent, .closed => some .closed
  | _, _ => none

/-- Where the trace stands after the events of a log, newest first. -/
def busPos : List BusEvent → Option BusPos
  | [] => some .closed
  | e :: es => (busPos es).bind (fun p => busMove p e)

/-- The point of the trace that belongs to a phase. -/
def PosFits : Phase → BusPos → Prop
  | .config _, pos => pos = .opened
  | .xfer _, pos => pos = .ready
  | .closing p _, pos => pos = .spent ∨ (p = .trial ∧ pos = .ready)
  | .idle, pos => pos = .closed
  | .check, pos => pos = .closed
  | .opening _, pos => pos = .closed
  | .finish _, pos => pos = .closed

/-- The bytes the engine ever sends: a probe's zeros (R129), or a gain's clock sequence and three zeros (R152). -/
def SentBytes (tx : List Byte) : Prop :=
  tx = List.replicate 1 0#8 ∨ tx = List.replicate 10 0#8 ∨ ∃ g : BitVec 2, g ≠ 3#2 ∧ tx = gainSeq g ++ [0#8, 0#8, 0#8]

/-- The arguments and answers R71 to R73 and R77 allow. -/
def EventFits : BusEvent → Prop
  | .opened id _ => id = Config.busId
  | .configured freq mode bits _ => freq = Config.busFreqHz ∧ mode = Config.busMode ∧ bits = 8
  | .transferred tx rxLen rx => SentBytes tx ∧ rxLen = tx.length ∧ ∀ bytes, rx = some bytes → bytes.length = rxLen
  | .closed => True

/-- The bus trace obeys the transport's rules and stands where the phase says. -/
def TraceFits (s : State) : Prop :=
  (∃ pos, busPos s.env.busLog = some pos ∧ PosFits s.phase pos) ∧ ∀ e ∈ s.env.busLog, EventFits e

/-! ## The accumulator: R181, R187, R188 -/

/-- `K · (-2^23) <= ACC <= K · (2^23 - 1)` (R188). -/
def AccBound (s : State) : Prop :=
  -8388608 * (s.k.toNat : Int) ≤ s.acc.toInt ∧ s.acc.toInt ≤ 8388607 * (s.k.toNat : Int)

/-- The averaging loop: ACC within the bounds of K samples, and K < n until the loop ends, K = n when it ends
without an error. -/
def AverageFits (s : State) : Prop :=
  ∀ i, decode s.cmdL = .command i → isAveraging i = true →
    match s.phase with
    | .idle => True
    | .check => True
    | .opening _ => AccBound s ∧ (s.k.toNat : Int) < countN s
    | .config _ => AccBound s ∧ (s.k.toNat : Int) < countN s
    | .xfer _ => AccBound s ∧ (s.k.toNat : Int) < countN s
    | .closing _ (.again _) => AccBound s ∧ (s.k.toNat : Int) < countN s
    | .closing _ (.ends code) => code = .none → AccBound s ∧ (s.k.toNat : Int) = countN s
    | .finish code => code = .none → AccBound s ∧ (s.k.toNat : Int) = countN s

/-! ## Runs -/

/-- `n` steps of the machine, stopping at the first fault or refusal. -/
def runFor : Nat → State → Result
  | 0, s => .next s
  | n + 1, s =>
    match step s with
    | .next t => runFor n t
    | .fault r => .fault r
    | .refused r => .refused r

/-- The end of a run (60_exceptions.md R260): no host access is left, and the last one read STATUS with BUSY = 0,
so no CMD write came after it. -/
def RunEnded (s : State) : Prop :=
  s.env.sched = [] ∧ ∃ v rest, s.env.hostLog = .read 0x04 v :: rest ∧ v.getLsbD 0 = false

/-- The running command is `i`, at its CHECK step, no handle is open and the host is silent. -/
def Starting (i : Instr) (s : State) : Prop :=
  decode s.cmdL = .command i ∧ s.phase = .check ∧ s.hopen = false ∧ s.env.sched = []

/-! ## Answers of the environment -/

/-- A response of ten zero bytes: every probe it answers is ready (R129). -/
def zeroResponse : Response := Vector.replicate 10 0#8

/-- The answers to one bus cycle that succeeds: open, configure, and a transfer that receives `r`. -/
def cycleAnswers (r : Response) : List BusAnswer := [.ok zeroResponse, .ok zeroResponse, .ok r]

/-- The answers to one sample read at once: a probe that is ready, then the sample cycle. -/
def sampleAnswers (r : Response) : List BusAnswer := cycleAnswers zeroResponse ++ cycleAnswers r

/-- A bus cycle that succeeds, for each of some responses in order. -/
def cyclesAnswers (rs : List Response) : List BusAnswer := rs.flatMap cycleAnswers

/-- The log of one successful bus cycle that sent `tx` and received `rx`, newest first (R120). -/
def cycleLog (tx rx : List Byte) : List BusEvent :=
  [.closed, .transferred tx tx.length (some rx), .configured Config.busFreqHz Config.busMode 8 true,
    .opened Config.busId true]

/-- `spread(n)` of 41_decoder.md R161: nibble bits 3, 2, 1, 0 at byte bits 1, 3, 5, 7. -/
def spreadNibble (n : BitVec 4) : Byte :=
  BitVec.ofBool (n.getLsbD 0) ++ 0#1 ++ BitVec.ofBool (n.getLsbD 1) ++ 0#1
    ++ BitVec.ofBool (n.getLsbD 2) ++ 0#1 ++ BitVec.ofBool (n.getLsbD 3) ++ 0#1

/-- Byte `k` of `enc(v)` with non-data bits `m` (R161): `spread(~nibble_k(v)) | m`. -/
def encodeByte (v : BitVec 24) (k : Nat) (m : Byte) : Byte :=
  spreadNibble (~~~(v.extractLsb' (20 - 4 * k) 4)) ||| m

/-- The exact sum of the samples of some responses (R187). -/
def sampleSum (sel : DecodeSelect) (rs : List Response) : Int := (rs.map (fun r => (sampleOf sel r).toInt)).sum

/-- The average of the samples of some responses, truncated toward zero (R181, R190). -/
def averageOf (sel : DecodeSelect) (rs : List Response) : Word := BitVec.ofInt 32 (quot (sampleSum sel rs) rs.length)

end Sys2Proof.Machine
end

