-- ==== Sys2Proof/Certificates/Slice0/Obligations.lean ====
section
/-! DEFINITION. The statements about the engine, each from the numbered rules its comment names. A comment that
names a log entry rests in part on a choice of the model's. -/

open Sys2Proof Sys2Proof.Machine

/-! ## Command words -/

/-- R90, R92, R95 to R97: a word decodes to a command exactly when it is that command's word, and the bytes of a
command's word decode to it (R62). -/
def Obligations.DecodeInvertsEncode : Prop :=
  (∀ (w : Word) (i : Instr), decode w = .command i ↔ w = encode i) ∧
  ∀ i : Instr, decodeBytes (encodeBytes i) = some (.command i)

/-- R96: the legal words are exactly those of the list, each with the command the list names. -/
def Obligations.LegalWordsAreTheList : Prop :=
  (∀ w : Word, (∃ i, decode w = .command i) ↔
    w ∈ [0x00000000#32, 0x00000001#32, 0x00000101#32, 0x00000201#32, 0x00000301#32,
         0x00000002#32, 0x00000102#32, 0x00000202#32, 0x00000302#32,
         0x00000003#32, 0x00000004#32, 0x00000005#32, 0x00000006#32, 0x00000007#32,
         0x00000008#32, 0x00000009#32, 0x0000000A#32, 0x0000000B#32, 0x0000000C#32]) ∧
  (∀ w : Word, (¬∃ i, decode w = .command i) → ∃ why, decode w = .illegal why) ∧
  decode 0x00000000#32 = .command .nop ∧
  decode 0x00000001#32 = .command (.init 0) ∧ decode 0x00000101#32 = .command (.init 1) ∧
  decode 0x00000201#32 = .command (.init 2) ∧ decode 0x00000301#32 = .command (.init 3) ∧
  decode 0x00000002#32 = .command (.setGain 0) ∧ decode 0x00000102#32 = .command (.setGain 1) ∧
  decode 0x00000202#32 = .command (.setGain 2) ∧ decode 0x00000302#32 = .command (.setGain 3) ∧
  decode 0x00000003#32 = .command .setOffset ∧ decode 0x00000004#32 = .command .setScale ∧
  decode 0x00000005#32 = .command .getOffset ∧ decode 0x00000006#32 = .command .isReady ∧
  decode 0x00000007#32 = .command .readOne ∧ decode 0x00000008#32 = .command .readAvg ∧
  decode 0x00000009#32 = .command .getUnits ∧ decode 0x0000000A#32 = .command .tare ∧
  decode 0x0000000B#32 = .command .calibrate ∧ decode 0x0000000C#32 = .command .close

/-- R95: a word is illegal exactly by (a), (b) or (c); written to an idle engine it is accepted like any other,
and two engine steps later it has completed with ILLEGAL_CMD and touched nothing else, the bus included. -/
def Obligations.IllegalWordsCompleteWithIllegalCmd : Prop :=
  (∀ w : Word, (∃ why, decode w = .illegal why) ↔
    0x0D#8 ≤ w.extractLsb' 0 8 ∨ w.extractLsb' 10 22 ≠ 0#22 ∨
      (w.extractLsb' 8 2 ≠ 0#2 ∧ w.extractLsb' 0 8 ≠ 0x01#8 ∧ w.extractLsb' 0 8 ≠ 0x02#8)) ∧
  ∀ (s : State) (w : Word) (why : IllegalWhy), decode w = .illegal why → s.busy = false →
    s.env.sched = [.write 0x00 4 w, .engine, .engine] →
    runFor 3 s = .next { s with
      cmdL := w, nL := s.argN, intL := s.argInt, fpL := s.argFpHi ++ s.argFpLo
      busy := false, done := true, err := .illegalCmd, phase := .idle
      env := { s.env with sched := [], hostLog := .wrote 0x00 w :: s.env.hostLog } }

/-- R92, V9: a few words of the opcode table, read through the table's numbering of bits. -/
def Obligations.TableWordsDecode : Prop :=
  decodeTableWord 32 0x00000000 = some .nop ∧ decodeTableWord 32 0x00000201 = some (.init 2) ∧
  decodeTableWord 32 0x00000102 = some (.setGain 1) ∧ decodeTableWord 32 0x00000006 = some .isReady ∧
  decodeTableWord 32 0x00000007 = some .readOne ∧ decodeTableWord 32 0x0000000B = some .calibrate ∧
  decodeTableWord 32 0x00000100 = none ∧ decodeTableWord 32 0x0000000D = none ∧
  decodeTableWord 32 0x00000701 = none ∧ decodeTableWord 32 0x80000007 = none

/-- R32, R41, R243: an engine step is one step of the command the latched word decodes to, whether the host is
silent or the schedule gives the engine the next step; and right after `withFetchWord` that command runs. The
schedule is the model's (log 4), `withFetchWord` stands for acceptance (log 19). -/
def Obligations.StepRunsDecodedCommand : Prop :=
  (∀ (s : State) (i : Instr), decode s.cmdL = .command i → s.env.sched = [] → step s = exec i s) ∧
  (∀ (s : State) (i : Instr) (rest : List HostMove), decode s.cmdL = .command i → s.env.sched = .engine :: rest →
    step s = exec i { s with env := { s.env with sched := rest } }) ∧
  (∀ (s : State) (w : Nat) (i : Instr), decodeTableWord 32 w = some i →
    step (s.withFetchWord 32 w) = exec i { s with
      cmdL := BitVec.ofNat 32 w, nL := s.argN, intL := s.argInt, fpL := s.argFpHi ++ s.argFpLo
      busy := true, done := false, err := .none, phase := .check })

/-! ## The host window -/

/-- R246: a CMD write to an idle engine latches the word and the operands and starts the command, in one step, and
leaves OVR and every other register. The host's schedule and log are the model's (log 4). -/
def Obligations.CommandWriteIsAccepted : Prop :=
  ∀ (s : State) (v : Word) (rest : List HostMove), s.busy = false → s.env.sched = .write 0x00 4 v :: rest →
    step s = .next { s with
      cmdL := v, nL := s.argN, intL := s.argInt, fpL := s.argFpHi ++ s.argFpLo
      busy := true, done := false, err := .none, phase := .check
      env := { s.env with sched := rest, hostLog := .wrote 0x00 v :: s.env.hostLog } }

/-- R247: a CMD write while BUSY = 1 sets OVR and changes nothing else of the engine. The host's schedule and log
are the model's (log 4). -/
def Obligations.CommandWriteWhileBusyIsRejected : Prop :=
  ∀ (s : State) (v : Word) (rest : List HostMove), s.busy = true → s.env.sched = .write 0x00 4 v :: rest →
    step s = .next { s with
      ovr := true
      env := { s.env with sched := rest, hostLog := .wrote 0x00 v :: s.env.hostLog } }

/-- R24, R240: what a read of STATUS returns, field by field, with the numbers of the error codes; and a write to
STATUS clears DONE by bit 1 and OVR by bit 2, every other bit of it ignored. -/
def Obligations.StatusReadsFieldsAndClearsByOnes : Prop :=
  (∀ (s : State) (rest : List HostMove), s.env.sched = .read 0x04 4 :: rest →
    ∃ w : Word,
      step s = .next { s with env := { s.env with sched := rest, hostLog := .read 0x04 w :: s.env.hostLog } } ∧
      w.getLsbD 0 = s.busy ∧ w.getLsbD 1 = s.done ∧ w.getLsbD 2 = s.ovr ∧
      w.extractLsb' 3 5 = 0#5 ∧ w.extractLsb' 12 20 = 0#20 ∧
      (s.err = .none ↔ w.extractLsb' 8 4 = 0#4) ∧ (s.err = .busUnavailable ↔ w.extractLsb' 8 4 = 1#4) ∧
      (s.err = .transferFailed ↔ w.extractLsb' 8 4 = 2#4) ∧ (s.err = .invalidResponse ↔ w.extractLsb' 8 4 = 3#4) ∧
      (s.err = .invalidArgument ↔ w.extractLsb' 8 4 = 4#4) ∧ (s.err = .notReady ↔ w.extractLsb' 8 4 = 5#4) ∧
      (s.err = .illegalCmd ↔ w.extractLsb' 8 4 = 6#4)) ∧
  ∀ (s : State) (v : Word) (rest : List HostMove), s.env.sched = .write 0x04 4 v :: rest →
    step s = .next { s with
      done := if v.getLsbD 1 = true then false else s.done
      ovr := if v.getLsbD 2 = true then false else s.ovr
      env := { s.env with sched := rest, hostLog := .wrote 0x04 v :: s.env.hostLog } }

/-- R61, R63: reserved offsets and CMD read 0; writes to reserved offsets, to read-only registers and to every bit of
STATUS but bits 1 and 2 are ignored; offsets from 0x40 on are not part of the engine, which the model says by
refusing them, as R61's undefined accesses (log 11). -/
def Obligations.ReservedOffsetsReadZeroAndIgnoreWrites : Prop :=
  (∀ (s : State) (off : Nat) (rest : List HostMove), off ∈ [0x1C, 0x34, 0x38, 0x3C, 0x00] →
    s.env.sched = .read off 4 :: rest →
    step s = .next { s with env := { s.env with sched := rest, hostLog := .read off 0#32 :: s.env.hostLog } }) ∧
  (∀ (s : State) (off : Nat) (v : Word) (rest : List HostMove),
    off ∈ [0x1C, 0x34, 0x38, 0x3C, 0x18, 0x20, 0x24, 0x28, 0x2C, 0x30] → s.env.sched = .write off 4 v :: rest →
    step s = .next { s with env := { s.env with sched := rest, hostLog := .wrote off v :: s.env.hostLog } }) ∧
  (∀ (s : State) (v : Word) (rest : List HostMove), s.env.sched = .write 0x04 4 v :: rest →
    step s = .next { s with
      done := !v.getLsbD 1 && s.done, ovr := !v.getLsbD 2 && s.ovr
      env := { s.env with sched := rest, hostLog := .wrote 0x04 v :: s.env.hostLog } }) ∧
  (∀ (s : State) (off bytes : Nat) (v : Word) (rest : List HostMove), 0x40 ≤ off →
    (s.env.sched = .read off bytes :: rest ∨ s.env.sched = .write off bytes v :: rest) →
    step s = .refused (.undefinedAccess off bytes))

/-- R61, R64: exactly the 32-bit accesses at 4-aligned offsets up to 0x3C have a meaning, and the model refuses the
rest, aligned accesses from 0x40 on too (log 11); a read changes no engine state, only the host gets the value
(log 4). -/
def Obligations.OnlyAlignedWordAccessesAreDefined : Prop :=
  ∀ (s : State) (off bytes : Nat) (v : Word) (rest : List HostMove),
    (bytes = 4 ∧ off % 4 = 0 ∧ off ≤ 0x3C →
      (s.env.sched = .read off bytes :: rest → ∃ w : Word,
        step s = .next { s with env := { s.env with sched := rest, hostLog := .read off w :: s.env.hostLog } }) ∧
      (s.env.sched = .write off bytes v :: rest → ∃ t, step s = .next t)) ∧
    (¬(bytes = 4 ∧ off % 4 = 0 ∧ off ≤ 0x3C) →
      (s.env.sched = .read off bytes :: rest ∨ s.env.sched = .write off bytes v :: rest) →
      step s = .refused (.undefinedAccess off bytes))

/-- R25 to R27: every value may be written to an operand register, at any time, with no other effect, and a read
returns the register; the result registers read back what the engine left (R28, R29, R31). -/
def Obligations.OperandRegistersStoreAndReadBack : Prop :=
  (∀ (s : State) (v : Word) (rest : List HostMove),
    let e := fun off => { s.env with sched := rest, hostLog := .wrote off v :: s.env.hostLog }
    (s.env.sched = .write 0x08 4 v :: rest → step s = .next { s with argN := v, env := e 0x08 }) ∧
    (s.env.sched = .write 0x0C 4 v :: rest → step s = .next { s with argInt := v, env := e 0x0C }) ∧
    (s.env.sched = .write 0x10 4 v :: rest → step s = .next { s with argFpLo := v, env := e 0x10 }) ∧
    (s.env.sched = .write 0x14 4 v :: rest → step s = .next { s with argFpHi := v, env := e 0x14 })) ∧
  ∀ (s : State) (off : Nat) (v : Word) (rest : List HostMove), s.env.sched = .read off 4 :: rest →
    (off, v) ∈ [(0x08, s.argN), (0x0C, s.argInt), (0x10, s.argFpLo), (0x14, s.argFpHi), (0x18, s.resInt),
      (0x20, s.resFpLo), (0x24, s.resFpHi), (0x28, s.raw0), (0x2C, s.raw1), (0x30, s.raw2)] →
    step s = .next { s with env := { s.env with sched := rest, hostLog := .read off v :: s.env.hostLog } }

/-- R60, R62: byte `k` of the register at `off` stands at `ENGINE_BASE + off + k` and is bits `[8k+7:8k]` of it; a
64-bit quantity has its low half at the lower offset; the window is 64 bytes. -/
def Obligations.WindowIsLittleEndian : Prop :=
  (∀ (s : State) (off k : Nat), off % 4 = 0 → off ≤ 0x3C → k < 4 →
    windowByte (Config.engineBase + off + k) s = some ((readReg (regAt off) s).extractLsb' (8 * k) 8)) ∧
  (∀ (s : State) (k : Nat), k < 8 →
    windowByte (Config.engineBase + 0x10 + k) s = some ((s.argFpHi ++ s.argFpLo).extractLsb' (8 * k) 8) ∧
    windowByte (Config.engineBase + 0x20 + k) s = some ((s.resFpHi ++ s.resFpLo).extractLsb' (8 * k) 8)) ∧
  ∀ (s : State) (addr : Nat), (windowByte addr s).isSome = true ↔
    Config.engineBase ≤ addr ∧ addr < Config.engineBase + 64

/-- R99, R292, R284, R271: WAIT reads STATUS and ends only where BUSY = 0; else it reads again, after the turns its
schedule puts there, or past that schedule's end after one engine step (log 20). A reset that comes between two reads
ends it, whatever the command: with the parameters, the schedule and the logs kept by reset (log 16). -/
def Obligations.WaitEndsOnlyWhenIdle : Prop :=
  (∀ (s : State) (gaps : List (List Turn)) (rest : List HostMove), s.env.sched = .wait gaps :: rest →
    (s.busy = false → step s = .next { s with env := { s.env with
      sched := rest, hostLog := .read 0x04 (statusWord s) :: s.env.hostLog } }) ∧
    (s.busy = true → gaps = [] → step s = .next { s with env := { s.env with
      sched := .engine :: .wait [] :: rest, hostLog := .read 0x04 (statusWord s) :: s.env.hostLog } }) ∧
    (s.busy = true → ∀ g later, gaps = g :: later → step s = .next { s with env := { s.env with
      sched := g.map turnMove ++ .wait later :: rest
      hostLog := .read 0x04 (statusWord s) :: s.env.hostLog } })) ∧
  ∀ (s : State) (later : List (List Turn)) (rest : List HostMove), s.busy = true →
    s.env.sched = .wait ([.reset] :: later) :: rest →
    runFor 3 s = .next { State.reset with
      gain := s.params.resetGain
      params := s.params
      env := { s.env with
        sched := rest
        hostLog := .read 0x04 0#32 :: .reset :: .read 0x04 (statusWord s) :: s.env.hostLog
        busLog := if s.hopen = true then .closed :: s.env.busLog else s.env.busLog } }

/-! ## Reset -/

/-- R44: what every piece of engine state holds after reset, with the parameters at the defaults of R5. -/
def Obligations.ResetStateHoldsTheListedValues : Prop :=
  let s := State.reset
  statusWord s = 0#32 ∧ s.busy = false ∧ s.done = false ∧ s.ovr = false ∧ s.err = .none ∧
  s.argN = 0#32 ∧ s.argInt = 0#32 ∧ s.argFpLo = 0#32 ∧ s.argFpHi = 0#32 ∧ s.resInt = 0#32 ∧
  s.resFpLo = 0#32 ∧ s.resFpHi = 0#32 ∧ s.raw0 = 0#32 ∧ s.raw1 = 0#32 ∧ s.raw2 = 0#32 ∧
  s.cmdL = 0#32 ∧ s.nL = 0#32 ∧ s.intL = 0#32 ∧ s.fpL = 0#64 ∧
  s.gain = 2#2 ∧ s.offset = 0#32 ∧ s.scale = 0x3FF0000000000000#64 ∧
  s.acc = 0#64 ∧ s.k = 0#32 ∧ s.polls = 0 ∧ s.hopen = false ∧ s.phase = .idle ∧
  readReg .cmd s = 0#32

/-- R270, R271, R273: reset takes one step from any phase, puts every register to its value with GAIN at
`RESET_GAIN`, and on the bus does nothing but close an open handle. That the logs, the answers to come and the
parameters stay is the model's choice (log 16). -/
def Obligations.ResetAbandonsCommandAndClosesHandle : Prop :=
  ∀ (s : State) (rest : List HostMove), s.env.sched = .reset :: rest →
    step s = .next { State.reset with
      gain := s.params.resetGain
      params := s.params
      env := { s.env with
        sched := rest
        hostLog := .reset :: s.env.hostLog
        busLog := if s.hopen = true then .closed :: s.env.busLog else s.env.busLog } }

/-! ## CHECK and FINISH -/

/-- R243: the first engine step after acceptance decodes the word and checks the arguments, before any bus
transaction; only then the first bus cycle or the completion follows. That this step is the one that sets ACC, K and
POLLS to 0, where the command does (R150, R181), is the model's reading (log 21). -/
def Obligations.CheckStepDecodesAndChecksArguments : Prop :=
  ∀ s : State, s.phase = .check → s.env.sched = [] →
    (∀ why, decode s.cmdL = .illegal why → step s = .next { s with phase := .finish .illegalCmd }) ∧
    (∀ i, decode s.cmdL = .command i → ArgumentError i s →
      step s = .next { s with phase := .finish .invalidArgument }) ∧
    (∀ i, decode s.cmdL = .command i → ¬ArgumentError i s →
      ∃ a k p, step s = .next { s with acc := a, k := k, polls := p, phase := firstPhase i } ∧
        (isAveraging i = true → a = 0#64 ∧ k = 0#32 ∧ p = 0) ∧
        (i = .readOne → a = s.acc ∧ k = s.k ∧ p = 0) ∧
        (isAveraging i = false → i ≠ .readOne → a = s.acc ∧ k = s.k ∧ p = s.polls))

/-- R241, R40: from a coherent state FINISH always completes: ERR <- code, DONE <- 1, BUSY <- 0, PHASE <- IDLE,
HOPEN = 0, and no bus transaction. -/
def Obligations.FinishStepCompletes : Prop :=
  ∀ (s : State) (code : ErrCode), Coherent s → s.phase = .finish code → s.env.sched = [] →
    ∃ t, step s = .next t ∧ t.err = code ∧ t.done = true ∧ t.busy = false ∧ t.phase = .idle ∧
      t.hopen = false ∧ t.ovr = s.ovr ∧ t.env.busLog = s.env.busLog ∧ t.env.script = s.env.script

/-- R45, R242: a command of any kind that completes with an error writes its code, and nothing else of the state
but the rest of STATUS and PHASE. -/
def Obligations.ErrorCompletionWritesOnlyItsCode : Prop :=
  ∀ (i : Instr) (s : State) (code : ErrCode), code ≠ .none → s.phase = .finish code →
    exec i s = .next { s with busy := false, done := true, err := code, phase := .idle }

/-! ## Lifecycle and accessor commands -/

/-- R210, R216, R217: NOP and CLOSE, with their words, complete in their CHECK and FINISH steps and write STATUS
only. -/
def Obligations.NopAndCloseWriteOnlyStatus : Prop :=
  encode .nop = 0x00000000#32 ∧ encode .close = 0x0000000C#32 ∧
  ∀ (i : Instr) (s : State), i = .nop ∨ i = .close →
    (s.phase = .check → exec i s = .next { s with phase := .finish .none }) ∧
    (s.phase = .finish .none →
      exec i s = .next { s with busy := false, done := true, err := .none, phase := .idle }) ∧
    (Starting i s → runFor 2 s = .next { s with busy := false, done := true, err := .none, phase := .idle })

/-- R124, R211: INIT's words; its writes, all in the completion step; and its run: one trial cycle with no transfer, where a
failed open, or a failed configure after the close, ends it with BUS_UNAVAILABLE and GAIN, OFFSET and SCALE as
before; with G = 3 it ends with INVALID_ARGUMENT and no bus transaction. -/
def Obligations.InitMakesTrialCycleThenUncalibrates : Prop :=
  (∀ g : BitVec 2, encode (.init g) = 0x00000001#32 ||| g.setWidth 32 <<< 8) ∧
  (∀ (g : BitVec 2) (s : State), s.phase = .finish .none →
    exec (.init g) s = .next { s with
      gain := g, offset := 0#32, scale := 0x3FF0000000000000#64
      busy := false, done := true, err := .none, phase := .idle }) ∧
  (∀ s : State, Starting (.init 3#2) s →
    runFor 2 s = .next { s with busy := false, done := true, err := .invalidArgument, phase := .idle }) ∧
  ∀ (g : BitVec 2) (s : State) (r1 r2 : Response) (rest : List BusAnswer), g ≠ 3#2 → Starting (.init g) s →
    (s.env.script = .fail :: rest →
      runFor 3 s = .next { s with
        busy := false, done := true, err := .busUnavailable, phase := .idle
        env := { s.env with script := rest, busLog := .opened Config.busId false :: s.env.busLog } }) ∧
    (s.env.script = .ok r1 :: .fail :: rest →
      runFor 5 s = .next { s with
        busy := false, done := true, err := .busUnavailable, phase := .idle
        env := { s.env with script := rest, busLog :=
          [.closed, .configured Config.busFreqHz Config.busMode 8 false, .opened Config.busId true] ++ s.env.busLog } }) ∧
    (s.env.script = .ok r1 :: .ok r2 :: rest →
      runFor 5 s = .next { s with
        gain := g, offset := 0#32, scale := 0x3FF0000000000000#64
        busy := false, done := true, err := .none, phase := .idle
        env := { s.env with script := rest, busLog :=
          [.closed, .configured Config.busFreqHz Config.busMode 8 true, .opened Config.busId true] ++ s.env.busLog } })

/-- R212, R217: SET_GAIN, with its words, writes GAIN; with code 3 it completes with INVALID_ARGUMENT and GAIN
unchanged. -/
def Obligations.SetGainWritesGainOrRefusesCodeThree : Prop :=
  (∀ g : BitVec 2, encode (.setGain g) = 0x00000002#32 ||| g.setWidth 32 <<< 8) ∧
  ∀ (g : BitVec 2) (s : State),
    (s.phase = .finish .none →
      exec (.setGain g) s = .next { s with
        gain := g, busy := false, done := true, err := .none, phase := .idle }) ∧
    (Starting (.setGain g) s → g ≠ 3#2 →
      runFor 2 s = .next { s with gain := g, busy := false, done := true, err := .none, phase := .idle }) ∧
    (Starting (.setGain g) s → g = 3#2 →
      runFor 2 s = .next { s with busy := false, done := true, err := .invalidArgument, phase := .idle })

/-- R213, R214, R215, R217: SET_OFFSET writes OFFSET with INT_L, SET_SCALE stores the 64 bits of FP_L unchanged,
GET_OFFSET writes RES_INT with OFFSET, whatever the values; each has its word and completes in its CHECK and FINISH
steps. -/
def Obligations.AccessorsMoveOneRegister : Prop :=
  encode .setOffset = 0x00000003#32 ∧ encode .setScale = 0x00000004#32 ∧ encode .getOffset = 0x00000005#32 ∧
  ∀ s : State,
    (s.phase = .finish .none →
      exec .setOffset s = .next { s with
        offset := s.intL, busy := false, done := true, err := .none, phase := .idle } ∧
      exec .setScale s = .next { s with
        scale := s.fpL, busy := false, done := true, err := .none, phase := .idle } ∧
      exec .getOffset s = .next { s with
        resInt := s.offset, busy := false, done := true, err := .none, phase := .idle }) ∧
    (Starting .setOffset s →
      runFor 2 s = .next { s with offset := s.intL, busy := false, done := true, err := .none, phase := .idle }) ∧
    (Starting .setScale s →
      runFor 2 s = .next { s with scale := s.fpL, busy := false, done := true, err := .none, phase := .idle }) ∧
    (Starting .getOffset s →
      runFor 2 s = .next { s with resInt := s.offset, busy := false, done := true, err := .none, phase := .idle })

/-! ## The bus port -/

/-- R71: BusOpen is issued only with HOPEN = 0 and with `id = BUS_ID`; OK sets HOPEN, FAIL leaves it 0 and raises
BUS_UNAVAILABLE; unanswered, the engine stays in its phase (R291). The script is the model's (log 3). -/
def Obligations.BusOpenFollowsItsAnswer : Prop :=
  ∀ (s : State) (p : Purpose) (a : BusAnswer) (rest : List BusAnswer), Coherent s → s.phase = .opening p →
    s.env.sched = [] → s.env.script = a :: rest →
    s.hopen = false ∧
    (a = .pending → step s = .next { s with env := { s.env with script := rest } }) ∧
    (a = .fail → step s = .next { s with
      phase := .finish .busUnavailable
      env := { s.env with script := rest, busLog := .opened Config.busId false :: s.env.busLog } }) ∧
    (∀ rx, a = .ok rx → step s = .next { s with
      hopen := true, phase := .config p
      env := { s.env with script := rest, busLog := .opened Config.busId true :: s.env.busLog } })

/-- R72, R120, R124: BusConfigure is issued only with HOPEN = 1, with the three configured arguments; FAIL leads to
the close and then BUS_UNAVAILABLE, OK to the transfer, or in a trial cycle to the close. -/
def Obligations.BusConfigureFollowsItsAnswer : Prop :=
  ∀ (s : State) (p : Purpose) (a : BusAnswer) (rest : List BusAnswer), Coherent s → s.phase = .config p →
    s.env.sched = [] → s.env.script = a :: rest →
    s.hopen = true ∧
    (a = .pending → step s = .next { s with env := { s.env with script := rest } }) ∧
    (a = .fail → step s = .next { s with
      phase := .closing p (.ends .busUnavailable)
      env := { s.env with script := rest, busLog :=
        [.configured Config.busFreqHz Config.busMode 8 false] ++ s.env.busLog } }) ∧
    (∀ rx, a = .ok rx → step s = .next { s with
      phase := if p = .trial then .closing .trial (.ends .none) else .xfer p
      env := { s.env with script := rest, busLog :=
        [.configured Config.busFreqHz Config.busMode 8 true] ++ s.env.busLog } })

/-- R73, R129, R152: BusTransfer is issued only with HOPEN = 1; it sends the probe's zeros or the gain's sequence
and three zeros, and receives as many bytes as it sends; FAIL leads to the close and then TRANSFER_FAILED. -/
def Obligations.BusTransferFollowsItsAnswer : Prop :=
  ∀ (s : State) (p : Purpose) (a : BusAnswer) (rest : List BusAnswer) (tx : List Byte), Coherent s →
    s.phase = .xfer p → s.env.sched = [] → s.env.script = a :: rest →
    (p = .probe → tx = List.replicate (probeLen s) 0#8) → (p = .sample → tx = gainSeq s.gain ++ [0#8, 0#8, 0#8]) →
    s.hopen = true ∧ p ≠ .trial ∧
    (a = .pending → step s = .next { s with env := { s.env with script := rest } }) ∧
    (a = .fail → step s = .next { s with
      phase := .closing p (.ends .transferFailed)
      env := { s.env with script := rest, busLog := .transferred tx tx.length none :: s.env.busLog } }) ∧
    (∀ rx, a = .ok rx → ∃ t bytes after, step s = .next t ∧ bytes.length = tx.length ∧ bytes <+: rx.toList ∧
      t.phase = .closing p after ∧ t.hopen = true ∧
      t.env = { s.env with script := rest, busLog := .transferred tx tx.length (some bytes) :: s.env.busLog })

/-- R74: BusClose is issued only with HOPEN = 1, takes no answer, always completes and clears HOPEN. -/
def Obligations.BusCloseAlwaysCompletes : Prop :=
  ∀ (s : State) (p : Purpose) (after : After), Coherent s → s.phase = .closing p after → s.env.sched = [] →
    s.hopen = true ∧
    step s = .next { s with
      hopen := false
      phase := (match after with
        | .again q => Phase.opening q
        | .ends code => Phase.finish code)
      env := { s.env with busLog := .closed :: s.env.busLog } }

/-- R126: each gain clock sequence has seven bytes, the three share the first six, and differ pairwise in the
last. -/
def Obligations.GainSequencesMeetTheirConstraints : Prop :=
  (∀ g : BitVec 2, (gainSeq g).length = 7) ∧
  (∀ (g h : BitVec 2) (n : Nat), n < 6 → (gainSeq g)[n]? = (gainSeq h)[n]?) ∧
  (gainSeq 0#2)[6]? ≠ (gainSeq 1#2)[6]? ∧ (gainSeq 0#2)[6]? ≠ (gainSeq 2#2)[6]? ∧
  (gainSeq 1#2)[6]? ≠ (gainSeq 2#2)[6]?

/-! ## Probes and the poll loop -/

/-- R131: IS_READY's completion, and its whole run: one probe cycle of `PROBE_LEN` zeros, RES_INT 1 where every
byte received is zero and 0 otherwise, whatever `POLL_LIMIT` is. -/
def Obligations.IsReadyReportsProbe : Prop :=
  (∀ s : State, s.phase = .finish .none →
    exec .isReady s = .next { s with
      resInt := s.val, busy := false, done := true, err := .none, phase := .idle }) ∧
  ∀ (s : State) (rx : Response) (rest : List BusAnswer) (n : Nat) (res : Word), Starting .isReady s →
    s.env.script = cycleAnswers rx ++ rest → (n = 1 ∧ s.params.probeLen = .one ∨ n = 10 ∧ s.params.probeLen = .ten) →
    (((∀ k (h : k < 10), k < n → rx[k] = 0#8) ∧ res = 1#32) ∨ ((∃ k, ∃ h : k < 10, k < n ∧ rx[k] ≠ 0#8) ∧ res = 0#32)) →
    runFor 6 s = .next { s with
      resInt := res, val := res, busy := false, done := true, err := .none, phase := .idle
      env := { s.env with
        script := rest
        busLog := cycleLog (List.replicate n 0#8) (rx.toList.take n) ++ s.env.busLog } }

/-- R150: the poll decision in a reading command's XFER step: ready goes on to the sample cycle; not ready counts,
and gives up with NOT_READY exactly when a finite `POLL_LIMIT` is reached, else probes again. -/
def Obligations.PollDecisionFollowsLimit : Prop :=
  ∀ (i : Instr) (s : State) (rx : Response) (rest : List BusAnswer), i = .readOne ∨ isAveraging i = true →
    s.phase = .xfer .probe → s.hopen = true → s.env.script = .ok rx :: rest →
    ∃ e, e = { s.env with
        script := rest
        busLog := .transferred (List.replicate (probeLen s) 0#8) (probeLen s)
          (some (rx.toList.take (probeLen s))) :: s.env.busLog } ∧
      ((∀ b ∈ rx.toList.take (probeLen s), b = 0#8) →
        exec i s = .next { s with phase := .closing .probe (.again .sample), env := e }) ∧
      (¬(∀ b ∈ rx.toList.take (probeLen s), b = 0#8) →
        (∃ limit, s.params.pollLimit = some limit ∧ limit ≤ s.polls + 1) →
        exec i s = .next { s with
          polls := s.polls + 1, phase := .closing .probe (.ends .notReady), env := e }) ∧
      (¬(∀ b ∈ rx.toList.take (probeLen s), b = 0#8) →
        (∀ limit, s.params.pollLimit = some limit → s.polls + 1 < limit) →
        exec i s = .next { s with
          polls := s.polls + 1, phase := .closing .probe (.again .probe), env := e })

/-- R150, R284, V21: any number of probes that answer not ready leave a reading command with `POLL_LIMIT` = ∞
polling, BUSY as it was, back at the open of a probe cycle; with a finite `POLL_LIMIT` exactly that many end it with
NOT_READY and no sample cycle. -/
def Obligations.PollLoopRunsUntilReadyOrLimit : Prop :=
  ∀ (i : Instr) (s : State) (rs : List Response) (rest : List BusAnswer), i = .readOne ∨ isAveraging i = true →
    decode s.cmdL = .command i → s.phase = .opening .probe → s.hopen = false → s.env.sched = [] →
    (∀ r ∈ rs, probeReady r s = false) → s.env.script = cyclesAnswers rs ++ rest →
    (s.params.pollLimit = none →
      ∃ log, runFor (4 * rs.length) s = .next { s with
        polls := s.polls + rs.length
        env := { s.env with script := rest, busLog := log ++ s.env.busLog } } ∧ log.length = 4 * rs.length) ∧
    (s.polls = 0 → rs ≠ [] → s.params.pollLimit = some rs.length →
      ∃ log, runFor (4 * rs.length) s = .next { s with
        polls := rs.length, phase := .finish .notReady
        env := { s.env with script := rest, busLog := log ++ s.env.busLog } } ∧ log.length = 4 * rs.length)

/-! ## Samples -/

/-- R152, R153, R154, R31: the step that receives a sample transfer's answer writes RAW0 to RAW2 in every case, and
where the response is invalid it does nothing else but go to the close and INVALID_RESPONSE. -/
def Obligations.SampleTransferCapturesThenValidates : Prop :=
  ∀ (i : Instr) (s : State) (r : Response) (rest : List BusAnswer), i = .readOne ∨ isAveraging i = true →
    s.phase = .xfer .sample → s.hopen = true → s.env.script = .ok r :: rest →
    (∃ t, exec i s = .next t ∧
      t.raw0 = (r[3].setWidth 32 <<< 24 ||| r[2].setWidth 32 <<< 16 ||| r[1].setWidth 32 <<< 8 ||| r[0].setWidth 32) ∧
      t.raw1 = (r[7].setWidth 32 <<< 24 ||| r[6].setWidth 32 <<< 16 ||| r[5].setWidth 32 <<< 8 ||| r[4].setWidth 32) ∧
      t.raw2 = (r[9].setWidth 32 <<< 8 ||| r[8].setWidth 32)) ∧
    ((r[0] = 0#8 ∧ r[1] = 0#8 ∧ r[2] = 0#8 ∧ r[3] = 0#8 ∧ r[4] = 0#8 ∧ r[5] = 0#8 ∧ r[6] = 0#8 ∨
        r[7] ≠ 0#8 ∨ r[8] ≠ 0#8 ∨ r[9] ≠ 0#8) →
      exec i s = .next { s with
        raw0 := r[3].setWidth 32 <<< 24 ||| r[2].setWidth 32 <<< 16 ||| r[1].setWidth 32 <<< 8 ||| r[0].setWidth 32
        raw1 := r[7].setWidth 32 <<< 24 ||| r[6].setWidth 32 <<< 16 ||| r[5].setWidth 32 <<< 8 ||| r[4].setWidth 32
        raw2 := r[9].setWidth 32 <<< 8 ||| r[8].setWidth 32
        phase := .closing .sample (.ends .invalidResponse)
        env := { s.env with
          script := rest
          busLog := .transferred (gainSeq s.gain ++ [0#8, 0#8, 0#8]) 10 (some r.toList) :: s.env.busLog } })

/-- R155 to R158: under the default selection nibble bits 3, 2, 1, 0 are the complements of response bits 1, 3, 5, 7;
the sample is the sign-extended 24-bit value of six nibbles, nibble 0 most significant, and lies in
[-2^23, 2^23-1]. -/
def Obligations.SampleIsSignExtendedNibbles : Prop :=
  defaultParams.decodeSelect = defaultSelect ∧
  (∀ r : Byte,
    (nibbleOf defaultSelect (~~~r)).getLsbD 3 = !r.getLsbD 1 ∧ (nibbleOf defaultSelect (~~~r)).getLsbD 2 = !r.getLsbD 3 ∧
    (nibbleOf defaultSelect (~~~r)).getLsbD 1 = !r.getLsbD 5 ∧ (nibbleOf defaultSelect (~~~r)).getLsbD 0 = !r.getLsbD 7) ∧
  ∀ (sel : DecodeSelect) (r : Response),
    (assemble24 sel r[0] r[1] r[2] r[3] r[4] r[5] =
      ((nibbleOf sel (~~~r[0])).setWidth 24 <<< 20 ||| (nibbleOf sel (~~~r[1])).setWidth 24 <<< 16
        ||| (nibbleOf sel (~~~r[2])).setWidth 24 <<< 12 ||| (nibbleOf sel (~~~r[3])).setWidth 24 <<< 8
        ||| (nibbleOf sel (~~~r[4])).setWidth 24 <<< 4 ||| (nibbleOf sel (~~~r[5])).setWidth 24)) ∧
    (sampleOf sel r).toInt = (assemble24 sel r[0] r[1] r[2] r[3] r[4] r[5]).toInt ∧
    -8388608 ≤ (sampleOf sel r).toInt ∧ (sampleOf sel r).toInt ≤ 8388607

/-- R161: every 24-bit value survives the round trip, whatever the non-data bits and byte 6 are, and its response
is valid unless all seven bytes are zero. -/
def Obligations.DecodeRecoversEncodedSample : Prop :=
  ∀ (v : BitVec 24) (m0 m1 m2 m3 m4 m5 b6 : Byte) (r : Response),
    m0 &&& 0xAA#8 = 0#8 → m1 &&& 0xAA#8 = 0#8 → m2 &&& 0xAA#8 = 0#8 → m3 &&& 0xAA#8 = 0#8 → m4 &&& 0xAA#8 = 0#8 →
    m5 &&& 0xAA#8 = 0#8 →
    r = #v[encodeByte v 0 m0, encodeByte v 1 m1, encodeByte v 2 m2, encodeByte v 3 m3, encodeByte v 4 m4,
      encodeByte v 5 m5, b6, 0#8, 0#8, 0#8] →
    (sampleOf defaultSelect r).toInt = v.toInt ∧
    (validResponse r = false ↔ r = zeroResponse)

/-- R156, R157, R160: the sample depends only on the data bits, mask 0xAA, of bytes 0 to 5. -/
def Obligations.NonDataBitsNeverChangeSample : Prop :=
  ∀ r q : Response,
    r[0] &&& 0xAA#8 = q[0] &&& 0xAA#8 → r[1] &&& 0xAA#8 = q[1] &&& 0xAA#8 → r[2] &&& 0xAA#8 = q[2] &&& 0xAA#8 →
    r[3] &&& 0xAA#8 = q[3] &&& 0xAA#8 → r[4] &&& 0xAA#8 = q[4] &&& 0xAA#8 → r[5] &&& 0xAA#8 = q[5] &&& 0xAA#8 →
    sampleOf defaultSelect r = sampleOf defaultSelect q

/-- R150, R152, R159, R160, V22: READ_ONE's completion writes RES_INT with the sample carried to it (log 5); its
whole run: some probes that are not ready, one that is, one sample
cycle; RES_INT is the sample, RAW the response, and the calibration state is untouched. -/
def Obligations.ReadOneRunReturnsSample : Prop :=
  (∀ s : State, s.phase = .finish .none →
    exec .readOne s = .next { s with
      resInt := s.val, busy := false, done := true, err := .none, phase := .idle }) ∧
  ∀ (s : State) (busyRs : List Response) (p r : Response) (rest : List BusAnswer), Starting .readOne s →
    (∀ b ∈ busyRs, probeReady b s = false) → probeReady p s = true → validResponse r = true →
    (∀ limit, s.params.pollLimit = some limit → busyRs.length < limit) →
    s.env.script = cyclesAnswers busyRs ++ cycleAnswers p ++ cycleAnswers r ++ rest →
    ∃ log, runFor (4 * busyRs.length + 10) s = .next { s with
      resInt := sampleOf s.params.decodeSelect r, val := sampleOf s.params.decodeSelect r
      raw0 := raw0Of r, raw1 := raw1Of r, raw2 := raw2Of r, polls := busyRs.length
      busy := false, done := true, err := .none, phase := .idle
      env := { s.env with
        script := rest
        busLog := cycleLog (gainSeq s.gain ++ [0#8, 0#8, 0#8]) r.toList ++ log ++ s.env.busLog } } ∧
      log.length = 4 * (busyRs.length + 1)

/-! ## Averages -/

/-- R183, R189, R190: READ_AVG's completion: the truncated quotient less OFFSET, modulo 2^32. -/
def Obligations.ReadAvgWritesAverageMinusOffset : Prop :=
  ∀ s : State, s.phase = .finish .none →
    exec .readAvg s = .next { s with
      resInt := BitVec.ofInt 32 (Int.tdiv s.acc.toInt s.nL.toInt) - s.offset
      busy := false, done := true, err := .none, phase := .idle }

/-- R185: TARE's completion: OFFSET is the average, the old OFFSET plays no part, no result register changes. -/
def Obligations.TareWritesAverageToOffset : Prop :=
  ∀ s : State, s.phase = .finish .none →
    exec .tare s = .next { s with
      offset := BitVec.ofInt 32 (Int.tdiv s.acc.toInt s.nL.toInt)
      busy := false, done := true, err := .none, phase := .idle }

/-- R184, R191: GET_UNITS's completion: RES_FP is the binary64 quotient, or some NaN encoding where the quotient is
a NaN (log 10), both halves at once; RES_INT is not written. -/
def Obligations.GetUnitsWritesQuotient : Prop :=
  ∀ s : State, s.phase = .finish .none →
    ∃ (bits : DWord) (draws : Nat),
      (∀ q, f64Div (f64OfInt (BitVec.ofInt 32 (Int.tdiv s.acc.toInt s.nL.toInt) - s.offset).toInt) s.scale = some q →
        bits = q ∧ draws = s.env.draws) ∧
      (f64Div (f64OfInt (BitVec.ofInt 32 (Int.tdiv s.acc.toInt s.nL.toInt) - s.offset).toInt) s.scale = none →
        f64IsNan bits = true) ∧
      exec .getUnits s = .next { s with
        resFpLo := bits.extractLsb' 0 32, resFpHi := bits.extractLsb' 32 32
        busy := false, done := true, err := .none, phase := .idle
        env := { s.env with draws := draws } }

/-- R186, R193: CALIBRATE's completion: SCALE is the quotient of the raw average, or where `CAL_USES_OFFSET` of the
offset-adjusted one, by knownUnits; no result register is written. -/
def Obligations.CalibrateWritesScale : Prop :=
  ∀ (s : State) (b : Word), s.phase = .finish .none →
    b = (if s.params.calUsesOffset = true
      then BitVec.ofInt 32 (Int.tdiv s.acc.toInt s.nL.toInt) - s.offset
      else BitVec.ofInt 32 (Int.tdiv s.acc.toInt s.nL.toInt)) →
    (∀ q, f64Div (f64OfInt b.toInt) s.fpL = some q →
      exec .calibrate s = .next { s with
        scale := q, busy := false, done := true, err := .none, phase := .idle }) ∧
    (Coherent s → decode s.cmdL = .command .calibrate → ∃ q, f64Div (f64OfInt b.toInt) s.fpL = some q)

/-- R180, R181, R187: every averaging command's run over n samples read at once: CHECK and 8 engine steps a sample
lead to a successful FINISH with ACC the exact sum and K = n; RAW holds the last response, nothing else changed. -/
def Obligations.AverageRunReachesFinish : Prop :=
  ∀ (i : Instr) (s : State) (rs : List Response) (r : Response) (rest : List BusAnswer), isAveraging i = true →
    Starting i s → ¬ArgumentError i s → rs.getLast? = some r → s.nL.toInt = rs.length →
    (∀ q ∈ rs, validResponse q = true) → s.env.script = rs.flatMap sampleAnswers ++ rest →
    ∃ (a : DWord) (log : List BusEvent),
      runFor (8 * rs.length + 1) s = .next { s with
        acc := a, k := s.nL, polls := 0, raw0 := raw0Of r, raw1 := raw1Of r, raw2 := raw2Of r
        phase := .finish .none
        env := { s.env with script := rest, busLog := log ++ s.env.busLog } } ∧
      a.toInt = sampleSum s.params.decodeSelect rs ∧ log.length = 8 * rs.length

/-- R180 to R182, V30: an averaging command that meets an invalid response after some valid samples ends with
INVALID_RESPONSE and keeps OFFSET, SCALE, GAIN, RES_INT and RES_FP; no further sample is read. -/
def Obligations.InvalidSampleAbortsAverage : Prop :=
  ∀ (i : Instr) (s : State) (rs : List Response) (bad : Response) (rest : List BusAnswer), isAveraging i = true →
    Starting i s → ¬ArgumentError i s → (rs.length : Int) < s.nL.toInt → (∀ r ∈ rs, validResponse r = true) →
    validResponse bad = false → s.env.script = rs.flatMap sampleAnswers ++ sampleAnswers bad ++ rest →
    ∃ t, runFor (8 * rs.length + 10) s = .next t ∧ t.err = .invalidResponse ∧ t.done = true ∧ t.busy = false ∧
      t.phase = .idle ∧ t.hopen = false ∧ t.gain = s.gain ∧ t.offset = s.offset ∧ t.scale = s.scale ∧
      t.resInt = s.resInt ∧ t.resFpLo = s.resFpLo ∧ t.resFpHi = s.resFpHi ∧
      t.raw0 = raw0Of bad ∧ t.raw1 = raw1Of bad ∧ t.raw2 = raw2Of bad ∧ t.env.script = rest

/-- R194: the host program `EXEC TARE`, `EXEC READ_AVG` over the same n samples twice ends with RES_INT = 0. That one
engine step lies between two reads of each WAIT is the model's choice (log 20). -/
def Obligations.TareThenReadAvgIsZero : Prop :=
  ∀ (s : State) (rs : List Response) (rest : List BusAnswer), s.busy = false → s.phase = .idle → s.hopen = false →
    rs ≠ [] → s.argN.toInt = rs.length → (∀ r ∈ rs, validResponse r = true) →
    s.env.sched = expandProgram [.execCmd .tare, .execCmd .readAvg] →
    s.env.script = rs.flatMap sampleAnswers ++ rs.flatMap sampleAnswers ++ rest →
    ∃ n t, runFor n s = .next t ∧ t.env.sched = [] ∧ t.busy = false ∧ t.err = .none ∧
      t.offset = averageOf s.params.decodeSelect rs ∧ t.resInt = 0#32 ∧ RunEnded t

/-- R187, R188: in a coherent state of an averaging command the accumulator is within its bounds, the addition is
exact, and at a successful FINISH the average lies in [-2^23, 2^23-1] and `trunc_32` changes nothing. -/
def Obligations.AverageStaysInSampleRange : Prop :=
  ∀ (s : State) (i : Instr), Coherent s → AverageFits s → decode s.cmdL = .command i → isAveraging i = true →
    (s.phase = .xfer .sample → ∀ r : Response,
      (s.acc + (sampleOf s.params.decodeSelect r).signExtend 64).toInt
        = s.acc.toInt + (sampleOf s.params.decodeSelect r).toInt) ∧
    (s.phase = .finish .none →
      (averageRaw s).toInt = Int.tdiv s.acc.toInt s.nL.toInt ∧
      -8388608 ≤ (averageRaw s).toInt ∧ (averageRaw s).toInt ≤ 8388607)

/-- R189, R190: `quot` truncates toward zero; the offset subtraction is the difference modulo 2^32, and for an
average in the sample range it is exact unless OFFSET is near the ends of the `s32` range; with the examples of the
two rules. -/
def Obligations.QuotTruncatesAndOffsetWraps : Prop :=
  (∀ a b : Int, 1 ≤ b → quot a b = a.sign * ((a.natAbs / b.natAbs : Nat) : Int)) ∧
  quot 17 2 = 8 ∧ quot (-17) 2 = -8 ∧ quot 0 5 = 0 ∧ quot (-1) 2 = 0 ∧ quot (-3) 3 = -1 ∧
  (∀ (a : Word) (s : State), (minusOffset a s).toInt = (a.toInt - s.offset.toInt).bmod (2 ^ 32)) ∧
  (∀ (a : Word) (s : State), -8388608 ≤ a.toInt → a.toInt ≤ 8388607 →
    (minusOffset a s).toInt ≠ a.toInt - s.offset.toInt →
    s.offset.toInt < -2147483648 + 8388608 ∨ 2147483647 - 8388608 < s.offset.toInt) ∧
  ∀ s : State, s.offset = 0x80000000#32 → (minusOffset 8388607#32 s).toInt = -2139095041

/-! ## binary64 -/

/-- R8, R191: `to_f64` of an `s32` is exact: its sign, and its magnitude in units of 2^-1074; zero gives +0.0. -/
def Obligations.IntegerConversionIsExact : Prop :=
  (∀ w : Word, f64IsFinite (f64OfInt w.toInt) = true ∧ f64Neg (f64OfInt w.toInt) = decide (w.toInt < 0) ∧
    f64Mag (f64OfInt w.toInt) = w.toInt.natAbs * f64Unit) ∧
  f64OfInt 0 = 0#64

/-- R191: the special cases of the division: a NaN exactly for a NaN operand, 0/0 and ∞/∞; nonzero finite by zero
an infinity, finite by infinite a zero, infinite by finite an infinity, with the exclusive-or of the signs. -/
def Obligations.DivisionSpecialCases : Prop :=
  (∀ a b : DWord, f64Div a b = none ↔
    f64IsNan a = true ∨ f64IsNan b = true ∨ (f64IsZero a = true ∧ f64IsZero b = true) ∨
      (f64IsInf a = true ∧ f64IsInf b = true)) ∧
  (∀ a b : DWord, f64IsFinite a = true → f64IsZero a = false → f64IsZero b = true →
    ∃ q, f64Div a b = some q ∧ f64IsInf q = true ∧ f64Neg q = (f64Neg a != f64Neg b)) ∧
  (∀ a b : DWord, f64IsFinite a = true → f64IsInf b = true →
    ∃ q, f64Div a b = some q ∧ f64IsZero q = true ∧ f64Neg q = (f64Neg a != f64Neg b)) ∧
  (∀ a b : DWord, f64IsInf a = true → f64IsFinite b = true →
    ∃ q, f64Div a b = some q ∧ f64IsInf q = true ∧ f64Neg q = (f64Neg a != f64Neg b))

/-- R8, R191: for finite operands with a nonzero divisor the quotient is rounded to nearest, ties to even: no finite
binary64 magnitude is nearer to the exact quotient, a tie goes to the even encoding, and the result is an infinity
exactly from the half step above the largest finite value on. -/
def Obligations.DivisionRoundsToNearestEven : Prop :=
  ∀ a b : DWord, f64IsFinite a = true → f64IsFinite b = true → f64IsZero b = false →
    ∃ q, f64Div a b = some q ∧ f64Neg q = (f64Neg a != f64Neg b) ∧
      (f64IsInf q = true ↔ (2 ^ 54 - 1) * 2 ^ 2044 * f64Mag b ≤ f64Mag a * f64Unit) ∧
      (f64IsInf q = false → f64IsFinite q = true ∧ ∀ y : DWord, f64IsFinite y = true →
        ((f64Mag q * f64Mag b : Nat) - (f64Mag a * f64Unit : Nat) : Int).natAbs
            ≤ ((f64Mag y * f64Mag b : Nat) - (f64Mag a * f64Unit : Nat) : Int).natAbs ∧
        (((f64Mag q * f64Mag b : Nat) - (f64Mag a * f64Unit : Nat) : Int).natAbs
            = ((f64Mag y * f64Mag b : Nat) - (f64Mag a * f64Unit : Nat) : Int).natAbs →
          f64Mag y = f64Mag q ∨ q.getLsbD 0 = false))

/-- R191, U6: the NaN a NaN result takes is some NaN encoding, whatever is drawn, and any NaN encoding could be
drawn (log 10). -/
def Obligations.DrawnNanIsAnyNanEncoding : Prop :=
  (∀ s : State, f64IsNan (drawnNan s) = true) ∧
  ∀ x : DWord, f64IsNan x = true ↔ ∃ neg frac, nanBits neg frac = x

/-! ## Whole-machine rules -/

/-- R28, R29, R31, R34, R35, R36, R45: which command's step writes which of GAIN, OFFSET, SCALE, RES_INT, RES_FP
and RAW, and only in a successful FINISH (RAW: in a sample transfer's step). -/
def Obligations.OnlyNamedCommandsWriteState : Prop :=
  ∀ (i : Instr) (s t : State), exec i s = .next t →
    (t.gain ≠ s.gain → s.phase = .finish .none ∧ ∃ g, i = .init g ∨ i = .setGain g) ∧
    (t.offset ≠ s.offset → s.phase = .finish .none ∧ ((∃ g, i = .init g) ∨ i = .setOffset ∨ i = .tare)) ∧
    (t.scale ≠ s.scale → s.phase = .finish .none ∧ ((∃ g, i = .init g) ∨ i = .setScale ∨ i = .calibrate)) ∧
    (t.resInt ≠ s.resInt →
      s.phase = .finish .none ∧ (i = .getOffset ∨ i = .isReady ∨ i = .readOne ∨ i = .readAvg)) ∧
    (t.resFpLo ≠ s.resFpLo ∨ t.resFpHi ≠ s.resFpHi → s.phase = .finish .none ∧ i = .getUnits) ∧
    (t.raw0 ≠ s.raw0 ∨ t.raw1 ≠ s.raw1 ∨ t.raw2 ≠ s.raw2 →
      s.phase = .xfer .sample ∧ (i = .readOne ∨ isAveraging i = true))

/-- R21, R24, R32, R33, R43: no command's step writes an operand register, a latch, OVR, a parameter, or the host's
side of the interface; and BUSY, DONE and ERR change only in FINISH. -/
def Obligations.EngineStepsKeepHostRegisters : Prop :=
  ∀ (i : Instr) (s t : State), exec i s = .next t →
    t.argN = s.argN ∧ t.argInt = s.argInt ∧ t.argFpLo = s.argFpLo ∧ t.argFpHi = s.argFpHi ∧
    t.cmdL = s.cmdL ∧ t.nL = s.nL ∧ t.intL = s.intL ∧ t.fpL = s.fpL ∧ t.ovr = s.ovr ∧ t.params = s.params ∧
    t.env.sched = s.env.sched ∧ t.env.hostLog = s.env.hostLog ∧
    ((∀ code, s.phase ≠ .finish code) → t.busy = s.busy ∧ t.done = s.done ∧ t.err = s.err)

/-- R248, R260, R272: from a coherent state BUSY falls only by the engine's FINISH step or by reset, and a new
command starts only by a CMD write to an idle engine. -/
def Obligations.CommandEndsOnlyByFinishOrReset : Prop :=
  ∀ s t : State, Coherent s → step s = .next t →
    (s.busy = true → t.busy = false →
      (∃ rest, s.env.sched = .reset :: rest) ∨
      ((s.env.sched = [] ∨ ∃ rest, s.env.sched = .engine :: rest) ∧ ∃ code, s.phase = .finish code ∧ t.err = code)) ∧
    (s.busy = false → t.busy = true → ∃ v rest, s.env.sched = .write 0x00 4 v :: rest ∧ t.cmdL = v)

/-- R24, R247: OVR rises only by a CMD write while BUSY = 1, and falls only by a STATUS write with bit 2 or by
reset. -/
def Obligations.OvrIsSticky : Prop :=
  ∀ s t : State, step s = .next t →
    (s.ovr = false → t.ovr = true → s.busy = true ∧ ∃ v rest, s.env.sched = .write 0x00 4 v :: rest) ∧
    (s.ovr = true → t.ovr = false →
      (∃ rest, s.env.sched = .reset :: rest) ∨
      ∃ v rest, s.env.sched = .write 0x04 4 v :: rest ∧ v.getLsbD 2 = true)

/-- R32, R33: the latched word and operands of a running command change only by reset, so no host write to CMD or
an ARG register reaches it. -/
def Obligations.RunningCommandKeepsItsLatches : Prop :=
  ∀ s t : State, s.busy = true → step s = .next t →
    (t.cmdL = s.cmdL ∧ t.nL = s.nL ∧ t.intL = s.intL ∧ t.fpL = s.fpL) ∨ ∃ rest, s.env.sched = .reset :: rest

/-- R32, R33, R68, R247: an engine step of a running command does not look at the operand registers or at OVR:
whatever the host has written there, the step does the same and leaves them as they are. -/
def Obligations.RunningCommandIgnoresHostRegisters : Prop :=
  ∀ (i : Instr) (s t : State) (n a lo hi : Word) (o : Bool), exec i s = .next t →
    exec i { s with argN := n, argInt := a, argFpLo := lo, argFpHi := hi, ovr := o } =
      .next { t with argN := n, argInt := a, argFpLo := lo, argFpHi := hi, ovr := o }

/-! ## Invariants -/

/-- Reset is coherent, its bus trace is empty and fits, and so do its codes and accumulator. -/
def Obligations.ResetIsCoherent : Prop :=
  Coherent State.reset ∧ TraceFits State.reset ∧ CodesFit State.reset ∧ AverageFits State.reset

/-- R30, R34, R40, R41, R243: every step of a coherent state, whatever the host and the bus do, leads to a coherent
state. -/
def Obligations.StepKeepsCoherence : Prop :=
  ∀ s t : State, Coherent s → step s = .next t → Coherent t

/-- R71 to R77, R120 to R124: every step of a coherent state keeps the bus trace legal: a handle is opened only
where none is open, configured right after, transferred over at most once, and closed before the command ends. -/
def Obligations.StepKeepsBusTraceLegal : Prop :=
  ∀ s t : State, Coherent s → TraceFits s → step s = .next t → TraceFits t

/-- R240, R258: every step of a coherent state keeps the code a command ends with among those R240 names for it. -/
def Obligations.StepKeepsErrorCodesInTable : Prop :=
  ∀ s t : State, Coherent s → CodesFit s → step s = .next t → CodesFit t

/-- R181, R187, R188: every step of a coherent state keeps the averaging loop's bounds. -/
def Obligations.StepKeepsAccumulatorBounds : Prop :=
  ∀ s t : State, Coherent s → AverageFits s → step s = .next t → AverageFits t

/-- R61, R259, R71 to R74: a coherent state never faults, and refuses only a host access R61 leaves undefined. -/
def Obligations.CoherentStatesNeverFault : Prop :=
  ∀ s : State, Coherent s →
    (∃ t, step s = .next t) ∨
    ∃ off bytes rest, (s.env.sched = .read off bytes :: rest ∨ ∃ v, s.env.sched = .write off bytes v :: rest) ∧
      ¬(bytes = 4 ∧ off % 4 = 0 ∧ off ≤ 0x3C) ∧ step s = .refused (.undefinedAccess off bytes)
end

