-- ==== Sys2Proof/Laws/State.lean ====
section
/-! SUPPORT. What each named update of Machine/Ops.lean and Machine/Sequencer.lean leaves in each field of the
state: one lemma a field, by definition, so that no later proof unfolds a record update. -/

namespace Sys2Proof.Machine

/-! ## `goto` -/

@[simp] theorem goto_busy (p : Phase) (s : State) : (goto p s).busy = s.busy := rfl
@[simp] theorem goto_done (p : Phase) (s : State) : (goto p s).done = s.done := rfl
@[simp] theorem goto_ovr (p : Phase) (s : State) : (goto p s).ovr = s.ovr := rfl
@[simp] theorem goto_err (p : Phase) (s : State) : (goto p s).err = s.err := rfl
@[simp] theorem goto_argN (p : Phase) (s : State) : (goto p s).argN = s.argN := rfl
@[simp] theorem goto_argInt (p : Phase) (s : State) : (goto p s).argInt = s.argInt := rfl
@[simp] theorem goto_argFpLo (p : Phase) (s : State) : (goto p s).argFpLo = s.argFpLo := rfl
@[simp] theorem goto_argFpHi (p : Phase) (s : State) : (goto p s).argFpHi = s.argFpHi := rfl
@[simp] theorem goto_resInt (p : Phase) (s : State) : (goto p s).resInt = s.resInt := rfl
@[simp] theorem goto_resFpLo (p : Phase) (s : State) : (goto p s).resFpLo = s.resFpLo := rfl
@[simp] theorem goto_resFpHi (p : Phase) (s : State) : (goto p s).resFpHi = s.resFpHi := rfl
@[simp] theorem goto_raw0 (p : Phase) (s : State) : (goto p s).raw0 = s.raw0 := rfl
@[simp] theorem goto_raw1 (p : Phase) (s : State) : (goto p s).raw1 = s.raw1 := rfl
@[simp] theorem goto_raw2 (p : Phase) (s : State) : (goto p s).raw2 = s.raw2 := rfl
@[simp] theorem goto_cmdL (p : Phase) (s : State) : (goto p s).cmdL = s.cmdL := rfl
@[simp] theorem goto_nL (p : Phase) (s : State) : (goto p s).nL = s.nL := rfl
@[simp] theorem goto_intL (p : Phase) (s : State) : (goto p s).intL = s.intL := rfl
@[simp] theorem goto_fpL (p : Phase) (s : State) : (goto p s).fpL = s.fpL := rfl
@[simp] theorem goto_gain (p : Phase) (s : State) : (goto p s).gain = s.gain := rfl
@[simp] theorem goto_offset (p : Phase) (s : State) : (goto p s).offset = s.offset := rfl
@[simp] theorem goto_scale (p : Phase) (s : State) : (goto p s).scale = s.scale := rfl
@[simp] theorem goto_acc (p : Phase) (s : State) : (goto p s).acc = s.acc := rfl
@[simp] theorem goto_k (p : Phase) (s : State) : (goto p s).k = s.k := rfl
@[simp] theorem goto_polls (p : Phase) (s : State) : (goto p s).polls = s.polls := rfl
@[simp] theorem goto_hopen (p : Phase) (s : State) : (goto p s).hopen = s.hopen := rfl
@[simp] theorem goto_phase (p : Phase) (s : State) : (goto p s).phase = p := rfl
@[simp] theorem goto_val (p : Phase) (s : State) : (goto p s).val = s.val := rfl
@[simp] theorem goto_params (p : Phase) (s : State) : (goto p s).params = s.params := rfl
@[simp] theorem goto_env (p : Phase) (s : State) : (goto p s).env = s.env := rfl

/-! ## `setHandle` -/

@[simp] theorem setHandle_busy (b : Bool) (s : State) : (setHandle b s).busy = s.busy := rfl
@[simp] theorem setHandle_done (b : Bool) (s : State) : (setHandle b s).done = s.done := rfl
@[simp] theorem setHandle_ovr (b : Bool) (s : State) : (setHandle b s).ovr = s.ovr := rfl
@[simp] theorem setHandle_err (b : Bool) (s : State) : (setHandle b s).err = s.err := rfl
@[simp] theorem setHandle_argN (b : Bool) (s : State) : (setHandle b s).argN = s.argN := rfl
@[simp] theorem setHandle_argInt (b : Bool) (s : State) : (setHandle b s).argInt = s.argInt := rfl
@[simp] theorem setHandle_argFpLo (b : Bool) (s : State) : (setHandle b s).argFpLo = s.argFpLo := rfl
@[simp] theorem setHandle_argFpHi (b : Bool) (s : State) : (setHandle b s).argFpHi = s.argFpHi := rfl
@[simp] theorem setHandle_resInt (b : Bool) (s : State) : (setHandle b s).resInt = s.resInt := rfl
@[simp] theorem setHandle_resFpLo (b : Bool) (s : State) : (setHandle b s).resFpLo = s.resFpLo := rfl
@[simp] theorem setHandle_resFpHi (b : Bool) (s : State) : (setHandle b s).resFpHi = s.resFpHi := rfl
@[simp] theorem setHandle_raw0 (b : Bool) (s : State) : (setHandle b s).raw0 = s.raw0 := rfl
@[simp] theorem setHandle_raw1 (b : Bool) (s : State) : (setHandle b s).raw1 = s.raw1 := rfl
@[simp] theorem setHandle_raw2 (b : Bool) (s : State) : (setHandle b s).raw2 = s.raw2 := rfl
@[simp] theorem setHandle_cmdL (b : Bool) (s : State) : (setHandle b s).cmdL = s.cmdL := rfl
@[simp] theorem setHandle_nL (b : Bool) (s : State) : (setHandle b s).nL = s.nL := rfl
@[simp] theorem setHandle_intL (b : Bool) (s : State) : (setHandle b s).intL = s.intL := rfl
@[simp] theorem setHandle_fpL (b : Bool) (s : State) : (setHandle b s).fpL = s.fpL := rfl
@[simp] theorem setHandle_gain (b : Bool) (s : State) : (setHandle b s).gain = s.gain := rfl
@[simp] theorem setHandle_offset (b : Bool) (s : State) : (setHandle b s).offset = s.offset := rfl
@[simp] theorem setHandle_scale (b : Bool) (s : State) : (setHandle b s).scale = s.scale := rfl
@[simp] theorem setHandle_acc (b : Bool) (s : State) : (setHandle b s).acc = s.acc := rfl
@[simp] theorem setHandle_k (b : Bool) (s : State) : (setHandle b s).k = s.k := rfl
@[simp] theorem setHandle_polls (b : Bool) (s : State) : (setHandle b s).polls = s.polls := rfl
@[simp] theorem setHandle_hopen (b : Bool) (s : State) : (setHandle b s).hopen = b := rfl
@[simp] theorem setHandle_phase (b : Bool) (s : State) : (setHandle b s).phase = s.phase := rfl
@[simp] theorem setHandle_val (b : Bool) (s : State) : (setHandle b s).val = s.val := rfl
@[simp] theorem setHandle_params (b : Bool) (s : State) : (setHandle b s).params = s.params := rfl
@[simp] theorem setHandle_env (b : Bool) (s : State) : (setHandle b s).env = s.env := rfl

/-! ## `logBus` -/

@[simp] theorem logBus_busy (e : BusEvent) (s : State) : (logBus e s).busy = s.busy := rfl
@[simp] theorem logBus_done (e : BusEvent) (s : State) : (logBus e s).done = s.done := rfl
@[simp] theorem logBus_ovr (e : BusEvent) (s : State) : (logBus e s).ovr = s.ovr := rfl
@[simp] theorem logBus_err (e : BusEvent) (s : State) : (logBus e s).err = s.err := rfl
@[simp] theorem logBus_argN (e : BusEvent) (s : State) : (logBus e s).argN = s.argN := rfl
@[simp] theorem logBus_argInt (e : BusEvent) (s : State) : (logBus e s).argInt = s.argInt := rfl
@[simp] theorem logBus_argFpLo (e : BusEvent) (s : State) : (logBus e s).argFpLo = s.argFpLo := rfl
@[simp] theorem logBus_argFpHi (e : BusEvent) (s : State) : (logBus e s).argFpHi = s.argFpHi := rfl
@[simp] theorem logBus_resInt (e : BusEvent) (s : State) : (logBus e s).resInt = s.resInt := rfl
@[simp] theorem logBus_resFpLo (e : BusEvent) (s : State) : (logBus e s).resFpLo = s.resFpLo := rfl
@[simp] theorem logBus_resFpHi (e : BusEvent) (s : State) : (logBus e s).resFpHi = s.resFpHi := rfl
@[simp] theorem logBus_raw0 (e : BusEvent) (s : State) : (logBus e s).raw0 = s.raw0 := rfl
@[simp] theorem logBus_raw1 (e : BusEvent) (s : State) : (logBus e s).raw1 = s.raw1 := rfl
@[simp] theorem logBus_raw2 (e : BusEvent) (s : State) : (logBus e s).raw2 = s.raw2 := rfl
@[simp] theorem logBus_cmdL (e : BusEvent) (s : State) : (logBus e s).cmdL = s.cmdL := rfl
@[simp] theorem logBus_nL (e : BusEvent) (s : State) : (logBus e s).nL = s.nL := rfl
@[simp] theorem logBus_intL (e : BusEvent) (s : State) : (logBus e s).intL = s.intL := rfl
@[simp] theorem logBus_fpL (e : BusEvent) (s : State) : (logBus e s).fpL = s.fpL := rfl
@[simp] theorem logBus_gain (e : BusEvent) (s : State) : (logBus e s).gain = s.gain := rfl
@[simp] theorem logBus_offset (e : BusEvent) (s : State) : (logBus e s).offset = s.offset := rfl
@[simp] theorem logBus_scale (e : BusEvent) (s : State) : (logBus e s).scale = s.scale := rfl
@[simp] theorem logBus_acc (e : BusEvent) (s : State) : (logBus e s).acc = s.acc := rfl
@[simp] theorem logBus_k (e : BusEvent) (s : State) : (logBus e s).k = s.k := rfl
@[simp] theorem logBus_polls (e : BusEvent) (s : State) : (logBus e s).polls = s.polls := rfl
@[simp] theorem logBus_hopen (e : BusEvent) (s : State) : (logBus e s).hopen = s.hopen := rfl
@[simp] theorem logBus_phase (e : BusEvent) (s : State) : (logBus e s).phase = s.phase := rfl
@[simp] theorem logBus_val (e : BusEvent) (s : State) : (logBus e s).val = s.val := rfl
@[simp] theorem logBus_params (e : BusEvent) (s : State) : (logBus e s).params = s.params := rfl
@[simp] theorem logBus_env (e : BusEvent) (s : State) : (logBus e s).env = { s.env with busLog := e :: s.env.busLog } := rfl

/-! ## `logHost` -/

@[simp] theorem logHost_busy (e : HostEvent) (s : State) : (logHost e s).busy = s.busy := rfl
@[simp] theorem logHost_done (e : HostEvent) (s : State) : (logHost e s).done = s.done := rfl
@[simp] theorem logHost_ovr (e : HostEvent) (s : State) : (logHost e s).ovr = s.ovr := rfl
@[simp] theorem logHost_err (e : HostEvent) (s : State) : (logHost e s).err = s.err := rfl
@[simp] theorem logHost_argN (e : HostEvent) (s : State) : (logHost e s).argN = s.argN := rfl
@[simp] theorem logHost_argInt (e : HostEvent) (s : State) : (logHost e s).argInt = s.argInt := rfl
@[simp] theorem logHost_argFpLo (e : HostEvent) (s : State) : (logHost e s).argFpLo = s.argFpLo := rfl
@[simp] theorem logHost_argFpHi (e : HostEvent) (s : State) : (logHost e s).argFpHi = s.argFpHi := rfl
@[simp] theorem logHost_resInt (e : HostEvent) (s : State) : (logHost e s).resInt = s.resInt := rfl
@[simp] theorem logHost_resFpLo (e : HostEvent) (s : State) : (logHost e s).resFpLo = s.resFpLo := rfl
@[simp] theorem logHost_resFpHi (e : HostEvent) (s : State) : (logHost e s).resFpHi = s.resFpHi := rfl
@[simp] theorem logHost_raw0 (e : HostEvent) (s : State) : (logHost e s).raw0 = s.raw0 := rfl
@[simp] theorem logHost_raw1 (e : HostEvent) (s : State) : (logHost e s).raw1 = s.raw1 := rfl
@[simp] theorem logHost_raw2 (e : HostEvent) (s : State) : (logHost e s).raw2 = s.raw2 := rfl
@[simp] theorem logHost_cmdL (e : HostEvent) (s : State) : (logHost e s).cmdL = s.cmdL := rfl
@[simp] theorem logHost_nL (e : HostEvent) (s : State) : (logHost e s).nL = s.nL := rfl
@[simp] theorem logHost_intL (e : HostEvent) (s : State) : (logHost e s).intL = s.intL := rfl
@[simp] theorem logHost_fpL (e : HostEvent) (s : State) : (logHost e s).fpL = s.fpL := rfl
@[simp] theorem logHost_gain (e : HostEvent) (s : State) : (logHost e s).gain = s.gain := rfl
@[simp] theorem logHost_offset (e : HostEvent) (s : State) : (logHost e s).offset = s.offset := rfl
@[simp] theorem logHost_scale (e : HostEvent) (s : State) : (logHost e s).scale = s.scale := rfl
@[simp] theorem logHost_acc (e : HostEvent) (s : State) : (logHost e s).acc = s.acc := rfl
@[simp] theorem logHost_k (e : HostEvent) (s : State) : (logHost e s).k = s.k := rfl
@[simp] theorem logHost_polls (e : HostEvent) (s : State) : (logHost e s).polls = s.polls := rfl
@[simp] theorem logHost_hopen (e : HostEvent) (s : State) : (logHost e s).hopen = s.hopen := rfl
@[simp] theorem logHost_phase (e : HostEvent) (s : State) : (logHost e s).phase = s.phase := rfl
@[simp] theorem logHost_val (e : HostEvent) (s : State) : (logHost e s).val = s.val := rfl
@[simp] theorem logHost_params (e : HostEvent) (s : State) : (logHost e s).params = s.params := rfl
@[simp] theorem logHost_env (e : HostEvent) (s : State) : (logHost e s).env = { s.env with hostLog := e :: s.env.hostLog } := rfl

/-! ## `writeRaw` -/

@[simp] theorem writeRaw_busy (r : Response) (s : State) : (writeRaw r s).busy = s.busy := rfl
@[simp] theorem writeRaw_done (r : Response) (s : State) : (writeRaw r s).done = s.done := rfl
@[simp] theorem writeRaw_ovr (r : Response) (s : State) : (writeRaw r s).ovr = s.ovr := rfl
@[simp] theorem writeRaw_err (r : Response) (s : State) : (writeRaw r s).err = s.err := rfl
@[simp] theorem writeRaw_argN (r : Response) (s : State) : (writeRaw r s).argN = s.argN := rfl
@[simp] theorem writeRaw_argInt (r : Response) (s : State) : (writeRaw r s).argInt = s.argInt := rfl
@[simp] theorem writeRaw_argFpLo (r : Response) (s : State) : (writeRaw r s).argFpLo = s.argFpLo := rfl
@[simp] theorem writeRaw_argFpHi (r : Response) (s : State) : (writeRaw r s).argFpHi = s.argFpHi := rfl
@[simp] theorem writeRaw_resInt (r : Response) (s : State) : (writeRaw r s).resInt = s.resInt := rfl
@[simp] theorem writeRaw_resFpLo (r : Response) (s : State) : (writeRaw r s).resFpLo = s.resFpLo := rfl
@[simp] theorem writeRaw_resFpHi (r : Response) (s : State) : (writeRaw r s).resFpHi = s.resFpHi := rfl
@[simp] theorem writeRaw_raw0 (r : Response) (s : State) : (writeRaw r s).raw0 = raw0Of r := rfl
@[simp] theorem writeRaw_raw1 (r : Response) (s : State) : (writeRaw r s).raw1 = raw1Of r := rfl
@[simp] theorem writeRaw_raw2 (r : Response) (s : State) : (writeRaw r s).raw2 = raw2Of r := rfl
@[simp] theorem writeRaw_cmdL (r : Response) (s : State) : (writeRaw r s).cmdL = s.cmdL := rfl
@[simp] theorem writeRaw_nL (r : Response) (s : State) : (writeRaw r s).nL = s.nL := rfl
@[simp] theorem writeRaw_intL (r : Response) (s : State) : (writeRaw r s).intL = s.intL := rfl
@[simp] theorem writeRaw_fpL (r : Response) (s : State) : (writeRaw r s).fpL = s.fpL := rfl
@[simp] theorem writeRaw_gain (r : Response) (s : State) : (writeRaw r s).gain = s.gain := rfl
@[simp] theorem writeRaw_offset (r : Response) (s : State) : (writeRaw r s).offset = s.offset := rfl
@[simp] theorem writeRaw_scale (r : Response) (s : State) : (writeRaw r s).scale = s.scale := rfl
@[simp] theorem writeRaw_acc (r : Response) (s : State) : (writeRaw r s).acc = s.acc := rfl
@[simp] theorem writeRaw_k (r : Response) (s : State) : (writeRaw r s).k = s.k := rfl
@[simp] theorem writeRaw_polls (r : Response) (s : State) : (writeRaw r s).polls = s.polls := rfl
@[simp] theorem writeRaw_hopen (r : Response) (s : State) : (writeRaw r s).hopen = s.hopen := rfl
@[simp] theorem writeRaw_phase (r : Response) (s : State) : (writeRaw r s).phase = s.phase := rfl
@[simp] theorem writeRaw_val (r : Response) (s : State) : (writeRaw r s).val = s.val := rfl
@[simp] theorem writeRaw_params (r : Response) (s : State) : (writeRaw r s).params = s.params := rfl
@[simp] theorem writeRaw_env (r : Response) (s : State) : (writeRaw r s).env = s.env := rfl

/-! ## `completed` -/

@[simp] theorem completed_busy (c : ErrCode) (s : State) : (completed c s).busy = false := rfl
@[simp] theorem completed_done (c : ErrCode) (s : State) : (completed c s).done = true := rfl
@[simp] theorem completed_ovr (c : ErrCode) (s : State) : (completed c s).ovr = s.ovr := rfl
@[simp] theorem completed_err (c : ErrCode) (s : State) : (completed c s).err = c := rfl
@[simp] theorem completed_argN (c : ErrCode) (s : State) : (completed c s).argN = s.argN := rfl
@[simp] theorem completed_argInt (c : ErrCode) (s : State) : (completed c s).argInt = s.argInt := rfl
@[simp] theorem completed_argFpLo (c : ErrCode) (s : State) : (completed c s).argFpLo = s.argFpLo := rfl
@[simp] theorem completed_argFpHi (c : ErrCode) (s : State) : (completed c s).argFpHi = s.argFpHi := rfl
@[simp] theorem completed_resInt (c : ErrCode) (s : State) : (completed c s).resInt = s.resInt := rfl
@[simp] theorem completed_resFpLo (c : ErrCode) (s : State) : (completed c s).resFpLo = s.resFpLo := rfl
@[simp] theorem completed_resFpHi (c : ErrCode) (s : State) : (completed c s).resFpHi = s.resFpHi := rfl
@[simp] theorem completed_raw0 (c : ErrCode) (s : State) : (completed c s).raw0 = s.raw0 := rfl
@[simp] theorem completed_raw1 (c : ErrCode) (s : State) : (completed c s).raw1 = s.raw1 := rfl
@[simp] theorem completed_raw2 (c : ErrCode) (s : State) : (completed c s).raw2 = s.raw2 := rfl
@[simp] theorem completed_cmdL (c : ErrCode) (s : State) : (completed c s).cmdL = s.cmdL := rfl
@[simp] theorem completed_nL (c : ErrCode) (s : State) : (completed c s).nL = s.nL := rfl
@[simp] theorem completed_intL (c : ErrCode) (s : State) : (completed c s).intL = s.intL := rfl
@[simp] theorem completed_fpL (c : ErrCode) (s : State) : (completed c s).fpL = s.fpL := rfl
@[simp] theorem completed_gain (c : ErrCode) (s : State) : (completed c s).gain = s.gain := rfl
@[simp] theorem completed_offset (c : ErrCode) (s : State) : (completed c s).offset = s.offset := rfl
@[simp] theorem completed_scale (c : ErrCode) (s : State) : (completed c s).scale = s.scale := rfl
@[simp] theorem completed_acc (c : ErrCode) (s : State) : (completed c s).acc = s.acc := rfl
@[simp] theorem completed_k (c : ErrCode) (s : State) : (completed c s).k = s.k := rfl
@[simp] theorem completed_polls (c : ErrCode) (s : State) : (completed c s).polls = s.polls := rfl
@[simp] theorem completed_hopen (c : ErrCode) (s : State) : (completed c s).hopen = s.hopen := rfl
@[simp] theorem completed_phase (c : ErrCode) (s : State) : (completed c s).phase = .idle := rfl
@[simp] theorem completed_val (c : ErrCode) (s : State) : (completed c s).val = s.val := rfl
@[simp] theorem completed_params (c : ErrCode) (s : State) : (completed c s).params = s.params := rfl
@[simp] theorem completed_env (c : ErrCode) (s : State) : (completed c s).env = s.env := rfl

/-! ## `setScript` -/

@[simp] theorem setScript_busy (l : List BusAnswer) (s : State) : (setScript l s).busy = s.busy := rfl
@[simp] theorem setScript_done (l : List BusAnswer) (s : State) : (setScript l s).done = s.done := rfl
@[simp] theorem setScript_ovr (l : List BusAnswer) (s : State) : (setScript l s).ovr = s.ovr := rfl
@[simp] theorem setScript_err (l : List BusAnswer) (s : State) : (setScript l s).err = s.err := rfl
@[simp] theorem setScript_argN (l : List BusAnswer) (s : State) : (setScript l s).argN = s.argN := rfl
@[simp] theorem setScript_argInt (l : List BusAnswer) (s : State) : (setScript l s).argInt = s.argInt := rfl
@[simp] theorem setScript_argFpLo (l : List BusAnswer) (s : State) : (setScript l s).argFpLo = s.argFpLo := rfl
@[simp] theorem setScript_argFpHi (l : List BusAnswer) (s : State) : (setScript l s).argFpHi = s.argFpHi := rfl
@[simp] theorem setScript_resInt (l : List BusAnswer) (s : State) : (setScript l s).resInt = s.resInt := rfl
@[simp] theorem setScript_resFpLo (l : List BusAnswer) (s : State) : (setScript l s).resFpLo = s.resFpLo := rfl
@[simp] theorem setScript_resFpHi (l : List BusAnswer) (s : State) : (setScript l s).resFpHi = s.resFpHi := rfl
@[simp] theorem setScript_raw0 (l : List BusAnswer) (s : State) : (setScript l s).raw0 = s.raw0 := rfl
@[simp] theorem setScript_raw1 (l : List BusAnswer) (s : State) : (setScript l s).raw1 = s.raw1 := rfl
@[simp] theorem setScript_raw2 (l : List BusAnswer) (s : State) : (setScript l s).raw2 = s.raw2 := rfl
@[simp] theorem setScript_cmdL (l : List BusAnswer) (s : State) : (setScript l s).cmdL = s.cmdL := rfl
@[simp] theorem setScript_nL (l : List BusAnswer) (s : State) : (setScript l s).nL = s.nL := rfl
@[simp] theorem setScript_intL (l : List BusAnswer) (s : State) : (setScript l s).intL = s.intL := rfl
@[simp] theorem setScript_fpL (l : List BusAnswer) (s : State) : (setScript l s).fpL = s.fpL := rfl
@[simp] theorem setScript_gain (l : List BusAnswer) (s : State) : (setScript l s).gain = s.gain := rfl
@[simp] theorem setScript_offset (l : List BusAnswer) (s : State) : (setScript l s).offset = s.offset := rfl
@[simp] theorem setScript_scale (l : List BusAnswer) (s : State) : (setScript l s).scale = s.scale := rfl
@[simp] theorem setScript_acc (l : List BusAnswer) (s : State) : (setScript l s).acc = s.acc := rfl
@[simp] theorem setScript_k (l : List BusAnswer) (s : State) : (setScript l s).k = s.k := rfl
@[simp] theorem setScript_polls (l : List BusAnswer) (s : State) : (setScript l s).polls = s.polls := rfl
@[simp] theorem setScript_hopen (l : List BusAnswer) (s : State) : (setScript l s).hopen = s.hopen := rfl
@[simp] theorem setScript_phase (l : List BusAnswer) (s : State) : (setScript l s).phase = s.phase := rfl
@[simp] theorem setScript_val (l : List BusAnswer) (s : State) : (setScript l s).val = s.val := rfl
@[simp] theorem setScript_params (l : List BusAnswer) (s : State) : (setScript l s).params = s.params := rfl
@[simp] theorem setScript_env (l : List BusAnswer) (s : State) : (setScript l s).env = { s.env with script := l } := rfl

/-! ## `bumpDraws` -/

@[simp] theorem bumpDraws_busy (s : State) : (bumpDraws s).busy = s.busy := rfl
@[simp] theorem bumpDraws_done (s : State) : (bumpDraws s).done = s.done := rfl
@[simp] theorem bumpDraws_ovr (s : State) : (bumpDraws s).ovr = s.ovr := rfl
@[simp] theorem bumpDraws_err (s : State) : (bumpDraws s).err = s.err := rfl
@[simp] theorem bumpDraws_argN (s : State) : (bumpDraws s).argN = s.argN := rfl
@[simp] theorem bumpDraws_argInt (s : State) : (bumpDraws s).argInt = s.argInt := rfl
@[simp] theorem bumpDraws_argFpLo (s : State) : (bumpDraws s).argFpLo = s.argFpLo := rfl
@[simp] theorem bumpDraws_argFpHi (s : State) : (bumpDraws s).argFpHi = s.argFpHi := rfl
@[simp] theorem bumpDraws_resInt (s : State) : (bumpDraws s).resInt = s.resInt := rfl
@[simp] theorem bumpDraws_resFpLo (s : State) : (bumpDraws s).resFpLo = s.resFpLo := rfl
@[simp] theorem bumpDraws_resFpHi (s : State) : (bumpDraws s).resFpHi = s.resFpHi := rfl
@[simp] theorem bumpDraws_raw0 (s : State) : (bumpDraws s).raw0 = s.raw0 := rfl
@[simp] theorem bumpDraws_raw1 (s : State) : (bumpDraws s).raw1 = s.raw1 := rfl
@[simp] theorem bumpDraws_raw2 (s : State) : (bumpDraws s).raw2 = s.raw2 := rfl
@[simp] theorem bumpDraws_cmdL (s : State) : (bumpDraws s).cmdL = s.cmdL := rfl
@[simp] theorem bumpDraws_nL (s : State) : (bumpDraws s).nL = s.nL := rfl
@[simp] theorem bumpDraws_intL (s : State) : (bumpDraws s).intL = s.intL := rfl
@[simp] theorem bumpDraws_fpL (s : State) : (bumpDraws s).fpL = s.fpL := rfl
@[simp] theorem bumpDraws_gain (s : State) : (bumpDraws s).gain = s.gain := rfl
@[simp] theorem bumpDraws_offset (s : State) : (bumpDraws s).offset = s.offset := rfl
@[simp] theorem bumpDraws_scale (s : State) : (bumpDraws s).scale = s.scale := rfl
@[simp] theorem bumpDraws_acc (s : State) : (bumpDraws s).acc = s.acc := rfl
@[simp] theorem bumpDraws_k (s : State) : (bumpDraws s).k = s.k := rfl
@[simp] theorem bumpDraws_polls (s : State) : (bumpDraws s).polls = s.polls := rfl
@[simp] theorem bumpDraws_hopen (s : State) : (bumpDraws s).hopen = s.hopen := rfl
@[simp] theorem bumpDraws_phase (s : State) : (bumpDraws s).phase = s.phase := rfl
@[simp] theorem bumpDraws_val (s : State) : (bumpDraws s).val = s.val := rfl
@[simp] theorem bumpDraws_params (s : State) : (bumpDraws s).params = s.params := rfl
@[simp] theorem bumpDraws_env (s : State) : (bumpDraws s).env = { s.env with draws := s.env.draws + 1 } := rfl

/-! ## `startPoll` -/

@[simp] theorem startPoll_busy (s : State) : (startPoll s).busy = s.busy := rfl
@[simp] theorem startPoll_done (s : State) : (startPoll s).done = s.done := rfl
@[simp] theorem startPoll_ovr (s : State) : (startPoll s).ovr = s.ovr := rfl
@[simp] theorem startPoll_err (s : State) : (startPoll s).err = s.err := rfl
@[simp] theorem startPoll_argN (s : State) : (startPoll s).argN = s.argN := rfl
@[simp] theorem startPoll_argInt (s : State) : (startPoll s).argInt = s.argInt := rfl
@[simp] theorem startPoll_argFpLo (s : State) : (startPoll s).argFpLo = s.argFpLo := rfl
@[simp] theorem startPoll_argFpHi (s : State) : (startPoll s).argFpHi = s.argFpHi := rfl
@[simp] theorem startPoll_resInt (s : State) : (startPoll s).resInt = s.resInt := rfl
@[simp] theorem startPoll_resFpLo (s : State) : (startPoll s).resFpLo = s.resFpLo := rfl
@[simp] theorem startPoll_resFpHi (s : State) : (startPoll s).resFpHi = s.resFpHi := rfl
@[simp] theorem startPoll_raw0 (s : State) : (startPoll s).raw0 = s.raw0 := rfl
@[simp] theorem startPoll_raw1 (s : State) : (startPoll s).raw1 = s.raw1 := rfl
@[simp] theorem startPoll_raw2 (s : State) : (startPoll s).raw2 = s.raw2 := rfl
@[simp] theorem startPoll_cmdL (s : State) : (startPoll s).cmdL = s.cmdL := rfl
@[simp] theorem startPoll_nL (s : State) : (startPoll s).nL = s.nL := rfl
@[simp] theorem startPoll_intL (s : State) : (startPoll s).intL = s.intL := rfl
@[simp] theorem startPoll_fpL (s : State) : (startPoll s).fpL = s.fpL := rfl
@[simp] theorem startPoll_gain (s : State) : (startPoll s).gain = s.gain := rfl
@[simp] theorem startPoll_offset (s : State) : (startPoll s).offset = s.offset := rfl
@[simp] theorem startPoll_scale (s : State) : (startPoll s).scale = s.scale := rfl
@[simp] theorem startPoll_acc (s : State) : (startPoll s).acc = s.acc := rfl
@[simp] theorem startPoll_k (s : State) : (startPoll s).k = s.k := rfl
@[simp] theorem startPoll_polls (s : State) : (startPoll s).polls = 0 := rfl
@[simp] theorem startPoll_hopen (s : State) : (startPoll s).hopen = s.hopen := rfl
@[simp] theorem startPoll_phase (s : State) : (startPoll s).phase = s.phase := rfl
@[simp] theorem startPoll_val (s : State) : (startPoll s).val = s.val := rfl
@[simp] theorem startPoll_params (s : State) : (startPoll s).params = s.params := rfl
@[simp] theorem startPoll_env (s : State) : (startPoll s).env = s.env := rfl

/-! ## `startAverage` -/

@[simp] theorem startAverage_busy (s : State) : (startAverage s).busy = s.busy := rfl
@[simp] theorem startAverage_done (s : State) : (startAverage s).done = s.done := rfl
@[simp] theorem startAverage_ovr (s : State) : (startAverage s).ovr = s.ovr := rfl
@[simp] theorem startAverage_err (s : State) : (startAverage s).err = s.err := rfl
@[simp] theorem startAverage_argN (s : State) : (startAverage s).argN = s.argN := rfl
@[simp] theorem startAverage_argInt (s : State) : (startAverage s).argInt = s.argInt := rfl
@[simp] theorem startAverage_argFpLo (s : State) : (startAverage s).argFpLo = s.argFpLo := rfl
@[simp] theorem startAverage_argFpHi (s : State) : (startAverage s).argFpHi = s.argFpHi := rfl
@[simp] theorem startAverage_resInt (s : State) : (startAverage s).resInt = s.resInt := rfl
@[simp] theorem startAverage_resFpLo (s : State) : (startAverage s).resFpLo = s.resFpLo := rfl
@[simp] theorem startAverage_resFpHi (s : State) : (startAverage s).resFpHi = s.resFpHi := rfl
@[simp] theorem startAverage_raw0 (s : State) : (startAverage s).raw0 = s.raw0 := rfl
@[simp] theorem startAverage_raw1 (s : State) : (startAverage s).raw1 = s.raw1 := rfl
@[simp] theorem startAverage_raw2 (s : State) : (startAverage s).raw2 = s.raw2 := rfl
@[simp] theorem startAverage_cmdL (s : State) : (startAverage s).cmdL = s.cmdL := rfl
@[simp] theorem startAverage_nL (s : State) : (startAverage s).nL = s.nL := rfl
@[simp] theorem startAverage_intL (s : State) : (startAverage s).intL = s.intL := rfl
@[simp] theorem startAverage_fpL (s : State) : (startAverage s).fpL = s.fpL := rfl
@[simp] theorem startAverage_gain (s : State) : (startAverage s).gain = s.gain := rfl
@[simp] theorem startAverage_offset (s : State) : (startAverage s).offset = s.offset := rfl
@[simp] theorem startAverage_scale (s : State) : (startAverage s).scale = s.scale := rfl
@[simp] theorem startAverage_acc (s : State) : (startAverage s).acc = 0 := rfl
@[simp] theorem startAverage_k (s : State) : (startAverage s).k = 0 := rfl
@[simp] theorem startAverage_polls (s : State) : (startAverage s).polls = 0 := rfl
@[simp] theorem startAverage_hopen (s : State) : (startAverage s).hopen = s.hopen := rfl
@[simp] theorem startAverage_phase (s : State) : (startAverage s).phase = s.phase := rfl
@[simp] theorem startAverage_val (s : State) : (startAverage s).val = s.val := rfl
@[simp] theorem startAverage_params (s : State) : (startAverage s).params = s.params := rfl
@[simp] theorem startAverage_env (s : State) : (startAverage s).env = s.env := rfl

/-! ## `accumulate` -/

@[simp] theorem accumulate_busy (v : Word) (s : State) : (accumulate v s).busy = s.busy := rfl
@[simp] theorem accumulate_done (v : Word) (s : State) : (accumulate v s).done = s.done := rfl
@[simp] theorem accumulate_ovr (v : Word) (s : State) : (accumulate v s).ovr = s.ovr := rfl
@[simp] theorem accumulate_err (v : Word) (s : State) : (accumulate v s).err = s.err := rfl
@[simp] theorem accumulate_argN (v : Word) (s : State) : (accumulate v s).argN = s.argN := rfl
@[simp] theorem accumulate_argInt (v : Word) (s : State) : (accumulate v s).argInt = s.argInt := rfl
@[simp] theorem accumulate_argFpLo (v : Word) (s : State) : (accumulate v s).argFpLo = s.argFpLo := rfl
@[simp] theorem accumulate_argFpHi (v : Word) (s : State) : (accumulate v s).argFpHi = s.argFpHi := rfl
@[simp] theorem accumulate_resInt (v : Word) (s : State) : (accumulate v s).resInt = s.resInt := rfl
@[simp] theorem accumulate_resFpLo (v : Word) (s : State) : (accumulate v s).resFpLo = s.resFpLo := rfl
@[simp] theorem accumulate_resFpHi (v : Word) (s : State) : (accumulate v s).resFpHi = s.resFpHi := rfl
@[simp] theorem accumulate_raw0 (v : Word) (s : State) : (accumulate v s).raw0 = s.raw0 := rfl
@[simp] theorem accumulate_raw1 (v : Word) (s : State) : (accumulate v s).raw1 = s.raw1 := rfl
@[simp] theorem accumulate_raw2 (v : Word) (s : State) : (accumulate v s).raw2 = s.raw2 := rfl
@[simp] theorem accumulate_cmdL (v : Word) (s : State) : (accumulate v s).cmdL = s.cmdL := rfl
@[simp] theorem accumulate_nL (v : Word) (s : State) : (accumulate v s).nL = s.nL := rfl
@[simp] theorem accumulate_intL (v : Word) (s : State) : (accumulate v s).intL = s.intL := rfl
@[simp] theorem accumulate_fpL (v : Word) (s : State) : (accumulate v s).fpL = s.fpL := rfl
@[simp] theorem accumulate_gain (v : Word) (s : State) : (accumulate v s).gain = s.gain := rfl
@[simp] theorem accumulate_offset (v : Word) (s : State) : (accumulate v s).offset = s.offset := rfl
@[simp] theorem accumulate_scale (v : Word) (s : State) : (accumulate v s).scale = s.scale := rfl
@[simp] theorem accumulate_acc (v : Word) (s : State) : (accumulate v s).acc = s.acc + v.signExtend 64 := rfl
@[simp] theorem accumulate_k (v : Word) (s : State) : (accumulate v s).k = s.k + 1 := rfl
@[simp] theorem accumulate_polls (v : Word) (s : State) : (accumulate v s).polls = s.polls := rfl
@[simp] theorem accumulate_hopen (v : Word) (s : State) : (accumulate v s).hopen = s.hopen := rfl
@[simp] theorem accumulate_phase (v : Word) (s : State) : (accumulate v s).phase = s.phase := rfl
@[simp] theorem accumulate_val (v : Word) (s : State) : (accumulate v s).val = s.val := rfl
@[simp] theorem accumulate_params (v : Word) (s : State) : (accumulate v s).params = s.params := rfl
@[simp] theorem accumulate_env (v : Word) (s : State) : (accumulate v s).env = s.env := rfl

/-! ## `acceptCommand` -/

@[simp] theorem acceptCommand_busy (v : Word) (s : State) : (acceptCommand v s).busy = true := rfl
@[simp] theorem acceptCommand_done (v : Word) (s : State) : (acceptCommand v s).done = false := rfl
@[simp] theorem acceptCommand_ovr (v : Word) (s : State) : (acceptCommand v s).ovr = s.ovr := rfl
@[simp] theorem acceptCommand_err (v : Word) (s : State) : (acceptCommand v s).err = .none := rfl
@[simp] theorem acceptCommand_argN (v : Word) (s : State) : (acceptCommand v s).argN = s.argN := rfl
@[simp] theorem acceptCommand_argInt (v : Word) (s : State) : (acceptCommand v s).argInt = s.argInt := rfl
@[simp] theorem acceptCommand_argFpLo (v : Word) (s : State) : (acceptCommand v s).argFpLo = s.argFpLo := rfl
@[simp] theorem acceptCommand_argFpHi (v : Word) (s : State) : (acceptCommand v s).argFpHi = s.argFpHi := rfl
@[simp] theorem acceptCommand_resInt (v : Word) (s : State) : (acceptCommand v s).resInt = s.resInt := rfl
@[simp] theorem acceptCommand_resFpLo (v : Word) (s : State) : (acceptCommand v s).resFpLo = s.resFpLo := rfl
@[simp] theorem acceptCommand_resFpHi (v : Word) (s : State) : (acceptCommand v s).resFpHi = s.resFpHi := rfl
@[simp] theorem acceptCommand_raw0 (v : Word) (s : State) : (acceptCommand v s).raw0 = s.raw0 := rfl
@[simp] theorem acceptCommand_raw1 (v : Word) (s : State) : (acceptCommand v s).raw1 = s.raw1 := rfl
@[simp] theorem acceptCommand_raw2 (v : Word) (s : State) : (acceptCommand v s).raw2 = s.raw2 := rfl
@[simp] theorem acceptCommand_cmdL (v : Word) (s : State) : (acceptCommand v s).cmdL = v := rfl
@[simp] theorem acceptCommand_nL (v : Word) (s : State) : (acceptCommand v s).nL = s.argN := rfl
@[simp] theorem acceptCommand_intL (v : Word) (s : State) : (acceptCommand v s).intL = s.argInt := rfl
@[simp] theorem acceptCommand_fpL (v : Word) (s : State) : (acceptCommand v s).fpL = argFp s := rfl
@[simp] theorem acceptCommand_gain (v : Word) (s : State) : (acceptCommand v s).gain = s.gain := rfl
@[simp] theorem acceptCommand_offset (v : Word) (s : State) : (acceptCommand v s).offset = s.offset := rfl
@[simp] theorem acceptCommand_scale (v : Word) (s : State) : (acceptCommand v s).scale = s.scale := rfl
@[simp] theorem acceptCommand_acc (v : Word) (s : State) : (acceptCommand v s).acc = s.acc := rfl
@[simp] theorem acceptCommand_k (v : Word) (s : State) : (acceptCommand v s).k = s.k := rfl
@[simp] theorem acceptCommand_polls (v : Word) (s : State) : (acceptCommand v s).polls = s.polls := rfl
@[simp] theorem acceptCommand_hopen (v : Word) (s : State) : (acceptCommand v s).hopen = s.hopen := rfl
@[simp] theorem acceptCommand_phase (v : Word) (s : State) : (acceptCommand v s).phase = .check := rfl
@[simp] theorem acceptCommand_val (v : Word) (s : State) : (acceptCommand v s).val = s.val := rfl
@[simp] theorem acceptCommand_params (v : Word) (s : State) : (acceptCommand v s).params = s.params := rfl
@[simp] theorem acceptCommand_env (v : Word) (s : State) : (acceptCommand v s).env = s.env := rfl

/-! ## `dropMove` -/

@[simp] theorem dropMove_busy (l : List HostMove) (s : State) : (dropMove l s).busy = s.busy := rfl
@[simp] theorem dropMove_done (l : List HostMove) (s : State) : (dropMove l s).done = s.done := rfl
@[simp] theorem dropMove_ovr (l : List HostMove) (s : State) : (dropMove l s).ovr = s.ovr := rfl
@[simp] theorem dropMove_err (l : List HostMove) (s : State) : (dropMove l s).err = s.err := rfl
@[simp] theorem dropMove_argN (l : List HostMove) (s : State) : (dropMove l s).argN = s.argN := rfl
@[simp] theorem dropMove_argInt (l : List HostMove) (s : State) : (dropMove l s).argInt = s.argInt := rfl
@[simp] theorem dropMove_argFpLo (l : List HostMove) (s : State) : (dropMove l s).argFpLo = s.argFpLo := rfl
@[simp] theorem dropMove_argFpHi (l : List HostMove) (s : State) : (dropMove l s).argFpHi = s.argFpHi := rfl
@[simp] theorem dropMove_resInt (l : List HostMove) (s : State) : (dropMove l s).resInt = s.resInt := rfl
@[simp] theorem dropMove_resFpLo (l : List HostMove) (s : State) : (dropMove l s).resFpLo = s.resFpLo := rfl
@[simp] theorem dropMove_resFpHi (l : List HostMove) (s : State) : (dropMove l s).resFpHi = s.resFpHi := rfl
@[simp] theorem dropMove_raw0 (l : List HostMove) (s : State) : (dropMove l s).raw0 = s.raw0 := rfl
@[simp] theorem dropMove_raw1 (l : List HostMove) (s : State) : (dropMove l s).raw1 = s.raw1 := rfl
@[simp] theorem dropMove_raw2 (l : List HostMove) (s : State) : (dropMove l s).raw2 = s.raw2 := rfl
@[simp] theorem dropMove_cmdL (l : List HostMove) (s : State) : (dropMove l s).cmdL = s.cmdL := rfl
@[simp] theorem dropMove_nL (l : List HostMove) (s : State) : (dropMove l s).nL = s.nL := rfl
@[simp] theorem dropMove_intL (l : List HostMove) (s : State) : (dropMove l s).intL = s.intL := rfl
@[simp] theorem dropMove_fpL (l : List HostMove) (s : State) : (dropMove l s).fpL = s.fpL := rfl
@[simp] theorem dropMove_gain (l : List HostMove) (s : State) : (dropMove l s).gain = s.gain := rfl
@[simp] theorem dropMove_offset (l : List HostMove) (s : State) : (dropMove l s).offset = s.offset := rfl
@[simp] theorem dropMove_scale (l : List HostMove) (s : State) : (dropMove l s).scale = s.scale := rfl
@[simp] theorem dropMove_acc (l : List HostMove) (s : State) : (dropMove l s).acc = s.acc := rfl
@[simp] theorem dropMove_k (l : List HostMove) (s : State) : (dropMove l s).k = s.k := rfl
@[simp] theorem dropMove_polls (l : List HostMove) (s : State) : (dropMove l s).polls = s.polls := rfl
@[simp] theorem dropMove_hopen (l : List HostMove) (s : State) : (dropMove l s).hopen = s.hopen := rfl
@[simp] theorem dropMove_phase (l : List HostMove) (s : State) : (dropMove l s).phase = s.phase := rfl
@[simp] theorem dropMove_val (l : List HostMove) (s : State) : (dropMove l s).val = s.val := rfl
@[simp] theorem dropMove_params (l : List HostMove) (s : State) : (dropMove l s).params = s.params := rfl
@[simp] theorem dropMove_env (l : List HostMove) (s : State) : (dropMove l s).env = { s.env with sched := l } := rfl

/-! ## `dropAnswer`, which moves only the environment -/

@[simp] theorem dropAnswer_busy (s : State) : (dropAnswer s).busy = s.busy := by unfold dropAnswer; split <;> rfl
@[simp] theorem dropAnswer_done (s : State) : (dropAnswer s).done = s.done := by unfold dropAnswer; split <;> rfl
@[simp] theorem dropAnswer_ovr (s : State) : (dropAnswer s).ovr = s.ovr := by unfold dropAnswer; split <;> rfl
@[simp] theorem dropAnswer_err (s : State) : (dropAnswer s).err = s.err := by unfold dropAnswer; split <;> rfl
@[simp] theorem dropAnswer_argN (s : State) : (dropAnswer s).argN = s.argN := by unfold dropAnswer; split <;> rfl
@[simp] theorem dropAnswer_argInt (s : State) : (dropAnswer s).argInt = s.argInt := by unfold dropAnswer; split <;> rfl
@[simp] theorem dropAnswer_argFpLo (s : State) : (dropAnswer s).argFpLo = s.argFpLo := by unfold dropAnswer; split <;> rfl
@[simp] theorem dropAnswer_argFpHi (s : State) : (dropAnswer s).argFpHi = s.argFpHi := by unfold dropAnswer; split <;> rfl
@[simp] theorem dropAnswer_resInt (s : State) : (dropAnswer s).resInt = s.resInt := by unfold dropAnswer; split <;> rfl
@[simp] theorem dropAnswer_resFpLo (s : State) : (dropAnswer s).resFpLo = s.resFpLo := by unfold dropAnswer; split <;> rfl
@[simp] theorem dropAnswer_resFpHi (s : State) : (dropAnswer s).resFpHi = s.resFpHi := by unfold dropAnswer; split <;> rfl
@[simp] theorem dropAnswer_raw0 (s : State) : (dropAnswer s).raw0 = s.raw0 := by unfold dropAnswer; split <;> rfl
@[simp] theorem dropAnswer_raw1 (s : State) : (dropAnswer s).raw1 = s.raw1 := by unfold dropAnswer; split <;> rfl
@[simp] theorem dropAnswer_raw2 (s : State) : (dropAnswer s).raw2 = s.raw2 := by unfold dropAnswer; split <;> rfl
@[simp] theorem dropAnswer_cmdL (s : State) : (dropAnswer s).cmdL = s.cmdL := by unfold dropAnswer; split <;> rfl
@[simp] theorem dropAnswer_nL (s : State) : (dropAnswer s).nL = s.nL := by unfold dropAnswer; split <;> rfl
@[simp] theorem dropAnswer_intL (s : State) : (dropAnswer s).intL = s.intL := by unfold dropAnswer; split <;> rfl
@[simp] theorem dropAnswer_fpL (s : State) : (dropAnswer s).fpL = s.fpL := by unfold dropAnswer; split <;> rfl
@[simp] theorem dropAnswer_gain (s : State) : (dropAnswer s).gain = s.gain := by unfold dropAnswer; split <;> rfl
@[simp] theorem dropAnswer_offset (s : State) : (dropAnswer s).offset = s.offset := by unfold dropAnswer; split <;> rfl
@[simp] theorem dropAnswer_scale (s : State) : (dropAnswer s).scale = s.scale := by unfold dropAnswer; split <;> rfl
@[simp] theorem dropAnswer_acc (s : State) : (dropAnswer s).acc = s.acc := by unfold dropAnswer; split <;> rfl
@[simp] theorem dropAnswer_k (s : State) : (dropAnswer s).k = s.k := by unfold dropAnswer; split <;> rfl
@[simp] theorem dropAnswer_polls (s : State) : (dropAnswer s).polls = s.polls := by unfold dropAnswer; split <;> rfl
@[simp] theorem dropAnswer_hopen (s : State) : (dropAnswer s).hopen = s.hopen := by unfold dropAnswer; split <;> rfl
@[simp] theorem dropAnswer_phase (s : State) : (dropAnswer s).phase = s.phase := by unfold dropAnswer; split <;> rfl
@[simp] theorem dropAnswer_val (s : State) : (dropAnswer s).val = s.val := by unfold dropAnswer; split <;> rfl
@[simp] theorem dropAnswer_params (s : State) : (dropAnswer s).params = s.params := by unfold dropAnswer; split <;> rfl
@[simp] theorem dropAnswer_env_sched (s : State) : (dropAnswer s).env.sched = s.env.sched := by
  unfold dropAnswer; split <;> rfl
@[simp] theorem dropAnswer_env_hostLog (s : State) : (dropAnswer s).env.hostLog = s.env.hostLog := by
  unfold dropAnswer; split <;> rfl
@[simp] theorem dropAnswer_env_busLog (s : State) : (dropAnswer s).env.busLog = s.env.busLog := by
  unfold dropAnswer; split <;> rfl

/-! ## `fpUsed`, which moves only the counter of draws -/

@[simp] theorem fpUsed_busy (q : Option DWord) (s : State) : (fpUsed q s).busy = s.busy := by cases q <;> rfl
@[simp] theorem fpUsed_done (q : Option DWord) (s : State) : (fpUsed q s).done = s.done := by cases q <;> rfl
@[simp] theorem fpUsed_ovr (q : Option DWord) (s : State) : (fpUsed q s).ovr = s.ovr := by cases q <;> rfl
@[simp] theorem fpUsed_err (q : Option DWord) (s : State) : (fpUsed q s).err = s.err := by cases q <;> rfl
@[simp] theorem fpUsed_argN (q : Option DWord) (s : State) : (fpUsed q s).argN = s.argN := by cases q <;> rfl
@[simp] theorem fpUsed_argInt (q : Option DWord) (s : State) : (fpUsed q s).argInt = s.argInt := by cases q <;> rfl
@[simp] theorem fpUsed_argFpLo (q : Option DWord) (s : State) : (fpUsed q s).argFpLo = s.argFpLo := by cases q <;> rfl
@[simp] theorem fpUsed_argFpHi (q : Option DWord) (s : State) : (fpUsed q s).argFpHi = s.argFpHi := by cases q <;> rfl
@[simp] theorem fpUsed_resInt (q : Option DWord) (s : State) : (fpUsed q s).resInt = s.resInt := by cases q <;> rfl
@[simp] theorem fpUsed_resFpLo (q : Option DWord) (s : State) : (fpUsed q s).resFpLo = s.resFpLo := by cases q <;> rfl
@[simp] theorem fpUsed_resFpHi (q : Option DWord) (s : State) : (fpUsed q s).resFpHi = s.resFpHi := by cases q <;> rfl
@[simp] theorem fpUsed_raw0 (q : Option DWord) (s : State) : (fpUsed q s).raw0 = s.raw0 := by cases q <;> rfl
@[simp] theorem fpUsed_raw1 (q : Option DWord) (s : State) : (fpUsed q s).raw1 = s.raw1 := by cases q <;> rfl
@[simp] theorem fpUsed_raw2 (q : Option DWord) (s : State) : (fpUsed q s).raw2 = s.raw2 := by cases q <;> rfl
@[simp] theorem fpUsed_cmdL (q : Option DWord) (s : State) : (fpUsed q s).cmdL = s.cmdL := by cases q <;> rfl
@[simp] theorem fpUsed_nL (q : Option DWord) (s : State) : (fpUsed q s).nL = s.nL := by cases q <;> rfl
@[simp] theorem fpUsed_intL (q : Option DWord) (s : State) : (fpUsed q s).intL = s.intL := by cases q <;> rfl
@[simp] theorem fpUsed_fpL (q : Option DWord) (s : State) : (fpUsed q s).fpL = s.fpL := by cases q <;> rfl
@[simp] theorem fpUsed_gain (q : Option DWord) (s : State) : (fpUsed q s).gain = s.gain := by cases q <;> rfl
@[simp] theorem fpUsed_offset (q : Option DWord) (s : State) : (fpUsed q s).offset = s.offset := by cases q <;> rfl
@[simp] theorem fpUsed_scale (q : Option DWord) (s : State) : (fpUsed q s).scale = s.scale := by cases q <;> rfl
@[simp] theorem fpUsed_acc (q : Option DWord) (s : State) : (fpUsed q s).acc = s.acc := by cases q <;> rfl
@[simp] theorem fpUsed_k (q : Option DWord) (s : State) : (fpUsed q s).k = s.k := by cases q <;> rfl
@[simp] theorem fpUsed_polls (q : Option DWord) (s : State) : (fpUsed q s).polls = s.polls := by cases q <;> rfl
@[simp] theorem fpUsed_hopen (q : Option DWord) (s : State) : (fpUsed q s).hopen = s.hopen := by cases q <;> rfl
@[simp] theorem fpUsed_phase (q : Option DWord) (s : State) : (fpUsed q s).phase = s.phase := by cases q <;> rfl
@[simp] theorem fpUsed_val (q : Option DWord) (s : State) : (fpUsed q s).val = s.val := by cases q <;> rfl
@[simp] theorem fpUsed_params (q : Option DWord) (s : State) : (fpUsed q s).params = s.params := by cases q <;> rfl
@[simp] theorem fpUsed_env_sched (q : Option DWord) (s : State) : (fpUsed q s).env.sched = s.env.sched := by
  cases q <;> rfl
@[simp] theorem fpUsed_env_hostLog (q : Option DWord) (s : State) : (fpUsed q s).env.hostLog = s.env.hostLog := by
  cases q <;> rfl
@[simp] theorem fpUsed_env_busLog (q : Option DWord) (s : State) : (fpUsed q s).env.busLog = s.env.busLog := by
  cases q <;> rfl
@[simp] theorem fpUsed_env_script (q : Option DWord) (s : State) : (fpUsed q s).env.script = s.env.script := by
  cases q <;> rfl

/-! ## The two ways to leave a step are both `goto` -/

@[simp] theorem endCommand_eq (c : ErrCode) (s : State) : endCommand c s = goto (.finish c) s := rfl

@[simp] theorem closeThen_eq (p : Purpose) (a : After) (s : State) : closeThen p a s = goto (.closing p a) s := rfl

/-! ## Answers by the script -/

/-- With an answer settled on, that answer is the next. -/
theorem nextAnswer_of_script {s : State} {a : BusAnswer} {rest : List BusAnswer} (h : s.env.script = a :: rest) :
    nextAnswer s = a := by
  simp [nextAnswer, h]

/-- With an answer settled on, using it up leaves the rest. -/
theorem dropAnswer_of_script {s : State} {a : BusAnswer} {rest : List BusAnswer} (h : s.env.script = a :: rest) :
    dropAnswer s = setScript rest s := by
  simp [dropAnswer, h]

/-! ## `gapMoves` -/

@[simp] theorem gapMoves_nil : gapMoves [] = [.engine] := rfl
@[simp] theorem gapMoves_cons (g : List Turn) (later : List (List Turn)) :
    gapMoves (g :: later) = g.map turnMove := rfl

end Sys2Proof.Machine
end

