-- ==== Sys2Proof/Laws/Ops.lean ====
section
/-! SUPPORT. One lemma for each shared operation that says everything it can do; the statements' proofs cite these
and do not unfold the operations. -/

namespace Sys2Proof.Machine

/-! ## Bus-port transactions: what a next state can be -/

/-- BusOpen goes on only without a handle: unanswered, refused by the bus, or opened (R71). -/
theorem busOpen_next {p : Purpose} {s t : State} (h : busOpen p s = .next t) :
    s.hopen = false ∧
      ((nextAnswer s = .pending ∧ t = dropAnswer s) ∨
       (nextAnswer s = .fail ∧ t = goto (.finish .busUnavailable) (logBus (.opened Config.busId false) (dropAnswer s))) ∨
       (∃ rx, nextAnswer s = .ok rx ∧
          t = goto (.config p) (setHandle true (logBus (.opened Config.busId true) (dropAnswer s))))) := by
  unfold busOpen at h
  cases ho : s.hopen with
  | true => simp [ho] at h
  | false =>
    refine ⟨rfl, ?_⟩
    cases ha : nextAnswer s <;> simp [ho, ha] at h <;> simp [← h]

/-- BusConfigure goes on only with a handle: unanswered, refused, or configured (R72). -/
theorem busConfigure_next {p : Purpose} {s t : State} (h : busConfigure p s = .next t) :
    s.hopen = true ∧
      ((nextAnswer s = .pending ∧ t = dropAnswer s) ∨
       (nextAnswer s = .fail ∧
          t = goto (.closing p (.ends .busUnavailable)) (logBus (configuredEvent false) (dropAnswer s))) ∨
       (∃ rx, nextAnswer s = .ok rx ∧ t = afterConfig p (logBus (configuredEvent true) (dropAnswer s)))) := by
  unfold busConfigure at h
  cases ho : s.hopen with
  | false => simp [ho] at h
  | true =>
    refine ⟨rfl, ?_⟩
    cases ha : nextAnswer s <;> simp [ho, ha] at h <;> simp [← h]

/-- BusTransfer goes on only with a handle: unanswered, failed, or received (R73). -/
theorem busTransfer_next {p : Purpose} {tx : List Byte} {f : Response → State → State} {s t : State}
    (h : busTransfer p tx f s = .next t) :
    s.hopen = true ∧
      ((nextAnswer s = .pending ∧ t = dropAnswer s) ∨
       (nextAnswer s = .fail ∧
          t = goto (.closing p (.ends .transferFailed)) (logBus (.transferred tx tx.length none) (dropAnswer s))) ∨
       (∃ rx, nextAnswer s = .ok rx ∧
          t = f rx (logBus (.transferred tx tx.length (some (rx.toList.take tx.length))) (dropAnswer s)))) := by
  unfold busTransfer at h
  cases ho : s.hopen with
  | false => simp [ho] at h
  | true =>
    refine ⟨rfl, ?_⟩
    cases ha : nextAnswer s <;> simp [ho, ha] at h <;> simp [← h]

/-- BusClose goes on only with a handle, and always closes (R74). -/
theorem busClose_next {after : After} {s t : State} (h : busClose after s = .next t) :
    s.hopen = true ∧ t = goto (phaseAfter after) (setHandle false (logBus .closed s)) := by
  unfold busClose at h
  cases ho : s.hopen with
  | false => simp [ho] at h
  | true => simp [ho] at h; exact ⟨rfl, h.symm⟩

/-! ## The datapath's steps -/

/-- The poll decision: on to the sample, or one more poll and then either the limit or another probe (R150). -/
theorem pollDecision_cases (ready : Bool) (s : State) :
    (ready = true ∧ pollDecision ready s = goto (.closing .probe (.again .sample)) s) ∨
    (ready = false ∧ (∃ limit, s.params.pollLimit = some limit ∧ limit ≤ s.polls + 1) ∧
      pollDecision ready s = goto (.closing .probe (.ends .notReady)) { s with polls := s.polls + 1 }) ∨
    (ready = false ∧ (∀ limit, s.params.pollLimit = some limit → s.polls + 1 < limit) ∧
      pollDecision ready s = goto (.closing .probe (.again .probe)) { s with polls := s.polls + 1 }) := by
  unfold pollDecision
  cases ready with
  | true => simp
  | false =>
    cases hl : s.params.pollLimit with
    | none => simp
    | some limit =>
      by_cases hle : limit ≤ s.polls + 1
      · simp [hle]
      · simp [hle]; omega

/-- The averaging loop's turn: another sample while K < n, else the end without an error (R181). -/
theorem averageSample_cases (v : Word) (s : State) :
    (((s.k + 1).toNat : Int) < countN s ∧
      averageSample v s = goto (.closing .sample (.again .probe)) (startPoll (accumulate v s))) ∨
    (¬((s.k + 1).toNat : Int) < countN s ∧
      averageSample v s = goto (.closing .sample (.ends .none)) (accumulate v s)) := by
  have hn : countN (accumulate v s) = countN s := rfl
  by_cases h : ((s.k + 1).toNat : Int) < countN s
  · exact .inl ⟨h, by unfold averageSample; simp only [hn, accumulate_k, if_pos h]; rfl⟩
  · exact .inr ⟨h, by unfold averageSample; simp only [hn, accumulate_k, if_neg h]; rfl⟩

/-- FINISH with an error writes STATUS and PHASE only (R45, R241, R242). -/
theorem finishStep_error {effect : State → State} {code : ErrCode} (h : code ≠ .none) (s : State) :
    finishStep effect code s = completed code s := by
  simp [finishStep, h]

/-- FINISH without an error lets the command's writes take effect together (R241). -/
theorem finishStep_ok (effect : State → State) (s : State) :
    finishStep effect .none s = completed .none (effect s) := by
  simp [finishStep]

/-- CHECK with an argument error ends the command with it, before any bus transaction (R243). -/
theorem checkStep_error {c : Plan} {s : State} (h : c.check s ≠ .none) :
    checkStep c s = goto (.finish (c.check s)) s := by
  simp [checkStep, h]

/-- CHECK without an error ends a command that has no bus cycle (R217). -/
theorem checkStep_accessor {c : Plan} {s : State} (h : c.check s = .none) (hc : c.cycles = []) :
    checkStep c s = goto (.finish .none) s := by
  simp [checkStep, h, hc]

/-- CHECK without an error leads to the first bus cycle (R243). -/
theorem checkStep_cycle {c : Plan} {s : State} {p : Purpose} {ps : List Purpose} (h : c.check s = .none)
    (hc : c.cycles = p :: ps) : checkStep c s = goto (.opening p) (c.start s) := by
  simp [checkStep, h, hc]

/-- A sample transfer's answer: captured, then either decoded or INVALID_RESPONSE (R152 to R154). -/
theorem sampleReceived_cases (c : Plan) (r : Response) (s : State) :
    (validResponse r = true ∧
      sampleReceived c r s = c.sampled (sampleOf s.params.decodeSelect r) (writeRaw r s)) ∨
    (validResponse r = false ∧
      sampleReceived c r s = goto (.closing .sample (.ends .invalidResponse)) (writeRaw r s)) := by
  unfold sampleReceived
  cases h : validResponse r <;> simp

/-! ## One engine step -/

/-- Everything one engine step of a command can do, by the phase it starts in (R41). -/
theorem runPlan_next {c : Plan} {s t : State} (h : runPlan c s = .next t) :
    (s.phase = .idle ∧ t = s) ∨
    (s.phase = .check ∧ t = checkStep c s) ∨
    (∃ p, s.phase = .opening p ∧ p ∈ c.cycles ∧ busOpen p s = .next t) ∨
    (∃ p, s.phase = .config p ∧ p ∈ c.cycles ∧ busConfigure p s = .next t) ∨
    (s.phase = .xfer .probe ∧ .probe ∈ c.cycles ∧
      busTransfer .probe (probeTx s) (fun rx u => c.probed (probeReady rx u) u) s = .next t) ∨
    (s.phase = .xfer .sample ∧ .sample ∈ c.cycles ∧
      busTransfer .sample (sampleTx s) (sampleReceived c) s = .next t) ∨
    (∃ p after, s.phase = .closing p after ∧ p ∈ c.cycles ∧ busClose after s = .next t) ∨
    (∃ code, s.phase = .finish code ∧ t = finishStep c.effect code s) := by
  unfold runPlan at h
  cases hp : s.phase with
  | idle => simp [hp] at h; simp [h]
  | check => simp [hp] at h; simp [h]
  | opening p =>
    simp only [hp] at h
    split at h <;> simp_all
  | config p =>
    simp only [hp] at h
    split at h <;> simp_all
  | xfer p =>
    simp only [hp] at h
    split at h
    · cases p <;> simp_all [transferStep]
    · cases h
  | closing p after =>
    simp only [hp] at h
    split at h <;> simp_all
  | finish code => simp [hp] at h; simp [h]

/-- An engine step never refuses. -/
theorem runPlan_not_refused (c : Plan) (s : State) (r : Refusal) : runPlan c s ≠ .refused r := by
  unfold runPlan transferStep busOpen busConfigure busTransfer busClose
  cases s.phase <;> simp <;> repeat' (first | split | simp)

/-- A command's meaning is one engine step of its plan. -/
theorem exec_eq_runPlan (i : Instr) (s : State) : exec i s = runPlan (planOf i) s := by
  cases i <;> rfl

/-- The engine's step is one step of the running command's plan. -/
theorem engineStep_eq_runPlan (s : State) : engineStep s = runPlan (runningPlan s) s := by
  unfold engineStep runningPlan
  cases decode s.cmdL with
  | command i => exact exec_eq_runPlan i s
  | illegal w => rfl

/-- With a silent host, a step is an engine step. -/
theorem step_of_silent {s : State} (h : s.env.sched = []) : step s = engineStep s := by
  simp [step, scheduledStep, h]

/-- With a move scheduled, a step performs it. -/
theorem step_of_move {s : State} {m : HostMove} {rest : List HostMove} (h : s.env.sched = m :: rest) :
    step s = performMove m (dropMove rest s) := by
  simp [step, scheduledStep, h]

/-- Everything a step can be: an engine step, or a move of the host (R14, R65). -/
theorem step_cases (s : State) :
    (s.env.sched = [] ∧ step s = engineStep s) ∨
    (∃ m rest, s.env.sched = m :: rest ∧ step s = performMove m (dropMove rest s)) := by
  cases h : s.env.sched with
  | nil => exact .inl ⟨rfl, step_of_silent h⟩
  | cons m rest => exact .inr ⟨m, rest, rfl, step_of_move h⟩

/-! ## Runs -/

/-- A run of n + m steps is a run of m steps after one of n. -/
theorem runFor_add {n m : Nat} {s t : State} (h : runFor n s = .next t) : runFor (n + m) s = runFor m t := by
  induction n generalizing s with
  | zero => simp only [runFor] at h; cases h; simp
  | succ n ih =>
    rw [Nat.add_right_comm]
    simp only [runFor] at h ⊢
    cases hs : step s <;> simp_all

/-- The host's run of the machine is `runFor`. -/
theorem core_run_eq (n : Nat) (s : State) : Host.Core.run Sys2Proof.core n s = runFor n s := by
  induction n generalizing s with
  | zero => rfl
  | succ n ih =>
    have hs : Sys2Proof.core.step s = step s := rfl
    simp only [Host.Core.run, runFor, hs]
    cases step s with
    | next t => exact ih t
    | fault r => rfl
    | refused r => rfl

end Sys2Proof.Machine
end

