-- ==== Sys2Proof/Laws/Host.lean ====
section
/-! SUPPORT. An engine step does not look at the host's schedule or its log, so a run under a schedule follows the run
of a silent host. -/

namespace Sys2Proof.Machine

/-- `s` with another schedule and another host log. -/
def withHost (sc : List HostMove) (lg : List HostEvent) (s : State) : State :=
  { s with env := { s.env with sched := sc, hostLog := lg } }

/-- A result whose next state has them. -/
def resultWithHost (sc : List HostMove) (lg : List HostEvent) : Result → Result
  | .next t => .next (withHost sc lg t)
  | .fault f => .fault f
  | .refused r => .refused r

variable (sc : List HostMove) (lg : List HostEvent)

theorem withHost_self (s : State) : withHost s.env.sched s.env.hostLog s = s := rfl

theorem withHost_withHost (sc' : List HostMove) (lg' : List HostEvent) (s : State) :
    withHost sc lg (withHost sc' lg' s) = withHost sc lg s := rfl

theorem pollDecision_withHost (b : Bool) (s : State) :
    pollDecision b (withHost sc lg s) = withHost sc lg (pollDecision b s) := by
  cases b
  · have h1 : (withHost sc lg s).params = s.params := rfl
    have h2 : (withHost sc lg s).polls = s.polls := rfl
    unfold pollDecision
    simp only [h1, h2]
    cases s.params.pollLimit with
    | none => rfl
    | some k => by_cases hk : k ≤ s.polls + 1 <;> simp only [hk] <;> rfl
  · rfl

theorem averageSample_withHost (v : Word) (s : State) :
    averageSample v (withHost sc lg s) = withHost sc lg (averageSample v s) := by
  have h1 : countN (accumulate v (withHost sc lg s)) = countN (accumulate v s) := rfl
  have h2 : (accumulate v (withHost sc lg s)).k = (accumulate v s).k := rfl
  unfold averageSample
  simp only [h1, h2]
  by_cases hk : ((accumulate v s).k.toNat : Int) < countN (accumulate v s) <;> simp only [hk] <;> rfl

theorem fp_withHost (r : Option DWord) (s : State) :
    fpUsed r (withHost sc lg s) = withHost sc lg (fpUsed r s) ∧ fpBits r (withHost sc lg s) = fpBits r s := by
  cases r <;> exact ⟨rfl, rfl⟩

/-- No part of a command's plan looks at the host's side. -/
theorem planOf_withHost (i : Instr) (s : State) :
    (planOf i).check (withHost sc lg s) = (planOf i).check s ∧
    (planOf i).start (withHost sc lg s) = withHost sc lg ((planOf i).start s) ∧
    (∀ b, (planOf i).probed b (withHost sc lg s) = withHost sc lg ((planOf i).probed b s)) ∧
    (∀ v, (planOf i).sampled v (withHost sc lg s) = withHost sc lg ((planOf i).sampled v s)) ∧
    (planOf i).effect (withHost sc lg s) = withHost sc lg ((planOf i).effect s) := by
  cases i
  case readAvg => exact ⟨rfl, rfl, fun _ => pollDecision_withHost .., fun _ => averageSample_withHost .., rfl⟩
  case tare => exact ⟨rfl, rfl, fun _ => pollDecision_withHost .., fun _ => averageSample_withHost .., rfl⟩
  case getUnits =>
    refine ⟨rfl, rfl, fun _ => pollDecision_withHost .., fun _ => averageSample_withHost .., ?_⟩
    have h : unitsQuotient (withHost sc lg s) = unitsQuotient s := rfl
    simp only [planOf, planGetUnits, averagePlan, h]
    rw [(fp_withHost ..).1, (fp_withHost ..).2]; rfl
  case calibrate =>
    refine ⟨rfl, rfl, fun _ => pollDecision_withHost .., fun _ => averageSample_withHost .., ?_⟩
    have h : scaleQuotient (withHost sc lg s) = scaleQuotient s := rfl
    simp only [planOf, planCalibrate, averagePlan, h]
    rw [(fp_withHost ..).1, (fp_withHost ..).2]; rfl
  case readOne => exact ⟨rfl, rfl, fun _ => pollDecision_withHost .., fun _ => rfl, rfl⟩
  all_goals exact ⟨rfl, rfl, fun _ => rfl, fun _ => rfl, rfl⟩

theorem dropAnswer_withHost (s : State) : dropAnswer (withHost sc lg s) = withHost sc lg (dropAnswer s) := by
  have h : (withHost sc lg s).env.script = s.env.script := rfl
  unfold dropAnswer
  rw [h]
  cases s.env.script <;> rfl

theorem busOpen_withHost (p : Purpose) (s : State) :
    busOpen p (withHost sc lg s) = resultWithHost sc lg (busOpen p s) := by
  have h1 : (withHost sc lg s).hopen = s.hopen := rfl
  have h2 : nextAnswer (withHost sc lg s) = nextAnswer s := rfl
  unfold busOpen
  rw [h1, h2, dropAnswer_withHost]
  cases s.hopen <;> cases nextAnswer s <;> rfl

theorem busConfigure_withHost (p : Purpose) (s : State) :
    busConfigure p (withHost sc lg s) = resultWithHost sc lg (busConfigure p s) := by
  have h1 : (withHost sc lg s).hopen = s.hopen := rfl
  have h2 : nextAnswer (withHost sc lg s) = nextAnswer s := rfl
  unfold busConfigure
  rw [h1, h2, dropAnswer_withHost]
  cases s.hopen <;> cases nextAnswer s <;> cases p <;> rfl

theorem busTransfer_withHost (p : Purpose) (tx : List Byte) (f : Response → State → State) (s : State)
    (hf : ∀ r t, f r (withHost sc lg t) = withHost sc lg (f r t)) :
    busTransfer p tx f (withHost sc lg s) = resultWithHost sc lg (busTransfer p tx f s) := by
  have h1 : (withHost sc lg s).hopen = s.hopen := rfl
  have h2 : nextAnswer (withHost sc lg s) = nextAnswer s := rfl
  have h3 : ∀ e t, logBus e (withHost sc lg t) = withHost sc lg (logBus e t) := fun _ _ => rfl
  unfold busTransfer
  rw [h1, h2, dropAnswer_withHost]
  simp only [h3, hf]
  cases s.hopen <;> cases nextAnswer s <;> rfl

theorem busClose_withHost (after : After) (s : State) :
    busClose after (withHost sc lg s) = resultWithHost sc lg (busClose after s) := by
  have h1 : (withHost sc lg s).hopen = s.hopen := rfl
  unfold busClose
  rw [h1]
  cases s.hopen <;> rfl

/-- A command's step under another schedule and log is the same step. -/
theorem exec_withHost (i : Instr) (s : State) :
    exec i (withHost sc lg s) = resultWithHost sc lg (exec i s) := by
  rw [exec_eq_runPlan, exec_eq_runPlan]
  have hpl := planOf_withHost sc lg i
  generalize planOf i = c at *
  have h1 : (withHost sc lg s).phase = s.phase := rfl
  unfold runPlan
  rw [h1]
  cases s.phase with
  | idle => rfl
  | check =>
    simp only [checkStep, (hpl s).1]
    by_cases he : c.check s = .none
    · simp only [he, if_true]
      cases c.cycles with
      | nil => rfl
      | cons p ps => simp only [(hpl s).2.1]; rfl
    · simp only [he, if_false]; rfl
  | opening p =>
    by_cases hm : p ∈ c.cycles
    · simp only [hm, if_true]; exact busOpen_withHost ..
    · simp only [hm, if_false]; rfl
  | config p =>
    by_cases hm : p ∈ c.cycles
    · simp only [hm, if_true]; exact busConfigure_withHost ..
    · simp only [hm, if_false]; rfl
  | closing p a =>
    by_cases hm : p ∈ c.cycles
    · simp only [hm, if_true]; exact busClose_withHost ..
    · simp only [hm, if_false]; rfl
  | xfer p =>
    by_cases hm : p ∈ c.cycles
    · simp only [hm, if_true]
      cases p
      · rfl
      · refine busTransfer_withHost sc lg .probe (probeTx s) (fun rx t => c.probed (probeReady rx t) t) s ?_
        intro r t
        exact (hpl t).2.2.1 _
      · refine busTransfer_withHost sc lg .sample (sampleTx s) (sampleReceived c) s ?_
        intro r t
        have h1 : writeRaw r (withHost sc lg t) = withHost sc lg (writeRaw r t) := rfl
        have h2 : (withHost sc lg t).params = t.params := rfl
        unfold sampleReceived
        simp only [h1, h2, (hpl _).2.2.2.1]
        cases validResponse r <;> rfl
    · simp only [hm, if_false]; rfl
  | finish code =>
    simp only [finishStep, (hpl s).2.2.2.2]
    by_cases hc : code = .none
    · simp only [hc, if_true]; rfl
    · simp only [hc, if_false]; rfl

end Sys2Proof.Machine
end

