-- ==== Sys2Proof/Laws/PerInstr.lean ====
section
/-! SUPPORT. Laws made per instruction: the encoder's word passes the three checks of WellFormed.lean, which are
written apart from encoder and decoder (30_encoding.md R95). -/

namespace Sys2Proof.Laws.LegalWord

/-- The command's word is a legal command word. -/
def Statement (i : Sys2Proof.Instr) : Prop := Sys2Proof.legalWord (Sys2Proof.encode i) = true

theorem nop : Statement .nop := by unfold Statement; decide
theorem init (g : BitVec 2) : Statement (.init g) := by unfold Statement; revert g; decide
theorem setGain (g : BitVec 2) : Statement (.setGain g) := by unfold Statement; revert g; decide
theorem setOffset : Statement .setOffset := by unfold Statement; decide
theorem setScale : Statement .setScale := by unfold Statement; decide
theorem getOffset : Statement .getOffset := by unfold Statement; decide
theorem isReady : Statement .isReady := by unfold Statement; decide
theorem readOne : Statement .readOne := by unfold Statement; decide
theorem readAvg : Statement .readAvg := by unfold Statement; decide
theorem getUnits : Statement .getUnits := by unfold Statement; decide
theorem tare : Statement .tare := by unfold Statement; decide
theorem calibrate : Statement .calibrate := by unfold Statement; decide
theorem close : Statement .close := by unfold Statement; decide

end Sys2Proof.Laws.LegalWord
end

