-- ==== Sys2Proof/Laws/Window.lean ====
section
/-! SUPPORT. The host window's operations: where they answer a next state, and what it is. -/

namespace Sys2Proof.Machine

/-- A host read goes on exactly where it is defined, and logs the value read (R61, R64). -/
theorem hostRead_next {off bytes : Nat} {s t : State} (h : hostRead off bytes s = .next t) :
    definedAccess off bytes = true ∧ t = logHost (.read off (readReg (regAt off) s)) s := by
  unfold hostRead at h
  cases hd : definedAccess off bytes <;> simp [hd] at h
  exact ⟨rfl, h.symm⟩

/-- A host write goes on exactly where it is defined (R61). -/
theorem hostWrite_next {off bytes : Nat} {v : Word} {s t : State} (h : hostWrite off bytes v s = .next t) :
    definedAccess off bytes = true ∧ t = writeReg (regAt off) v (logHost (.wrote off v) s) := by
  unfold hostWrite at h
  cases hd : definedAccess off bytes <;> simp [hd] at h
  exact ⟨rfl, h.symm⟩

/-- The defined accesses are the aligned 32-bit ones inside the window (R61). -/
theorem definedAccess_iff (off bytes : Nat) :
    definedAccess off bytes = true ↔ bytes = 4 ∧ off % 4 = 0 ∧ off ≤ 0x3C := by
  simp [definedAccess, and_assoc]

/-- A write to CMD is accepted or rejected by BUSY (R246, R247). -/
theorem writeCmd_cases (v : Word) (s : State) :
    (s.busy = true ∧ writeCmd v s = { s with ovr := true }) ∨
    (s.busy = false ∧ writeCmd v s = acceptCommand v s) := by
  unfold writeCmd
  cases h : s.busy <;> simp

/-- What a host write can change: an accepted command, OVR, the W1C bits, or an operand register (R21). -/
theorem writeReg_cases (r : HostReg) (v : Word) (s : State) :
    (r = .cmd ∧ writeReg r v s = writeCmd v s) ∨
    (r = .status ∧ writeReg r v s = writeStatus v s) ∨
    (∃ a i l h, writeReg r v s = { s with argN := a, argInt := i, argFpLo := l, argFpHi := h }) := by
  cases r
  case cmd => exact .inl ⟨rfl, rfl⟩
  case status => exact .inr (.inl ⟨rfl, rfl⟩)
  all_goals exact .inr (.inr ⟨_, _, _, _, rfl⟩)

/-- WAIT logs a read of STATUS and repeats exactly while BUSY = 1, after what its schedule puts between (R99). -/
theorem hostWait_cases (gaps : List (List Turn)) (s : State) :
    (s.busy = false ∧ hostWait gaps s = logHost (.read 0x04 (statusWord s)) s) ∨
    (s.busy = true ∧
      hostWait gaps s = dropMove (gapMoves gaps ++ .wait gaps.tail :: s.env.sched) (logHost (.read 0x04 (statusWord s)) s)) := by
  unfold hostWait
  cases h : s.busy <;> simp [dropMove]

/-- Reset keeps the parameters. -/
@[simp] theorem assertReset_params (s : State) : (assertReset s).params = s.params := rfl

/-- Reset leaves no handle open (R270). -/
@[simp] theorem assertReset_hopen (s : State) : (assertReset s).hopen = false := rfl

/-- Reset leaves the engine idle (R274). -/
@[simp] theorem assertReset_phase (s : State) : (assertReset s).phase = .idle := rfl

end Sys2Proof.Machine
end

