-- ==== Sys2Proof/Laws/Steps.lean ====
section
/-! SUPPORT. What an engine step does when the answers it needs are settled on: the forward lemmas a run is put
together from, up to a whole successful bus cycle. -/

namespace Sys2Proof.Machine

/-! ## One transaction -/

theorem busOpen_fail {p : Purpose} {s : State} {rest : List BusAnswer} (ho : s.hopen = false)
    (h : s.env.script = .fail :: rest) :
    busOpen p s = .next (goto (.finish .busUnavailable) (logBus (.opened Config.busId false) (setScript rest s))) := by
  simp [busOpen, ho, nextAnswer_of_script h, dropAnswer_of_script h]

theorem busOpen_ok {p : Purpose} {s : State} {r : Response} {rest : List BusAnswer} (ho : s.hopen = false)
    (h : s.env.script = .ok r :: rest) :
    busOpen p s =
      .next (goto (.config p) (setHandle true (logBus (.opened Config.busId true) (setScript rest s)))) := by
  simp [busOpen, ho, nextAnswer_of_script h, dropAnswer_of_script h]

theorem busConfigure_fail {p : Purpose} {s : State} {rest : List BusAnswer} (ho : s.hopen = true)
    (h : s.env.script = .fail :: rest) :
    busConfigure p s =
      .next (goto (.closing p (.ends .busUnavailable)) (logBus (configuredEvent false) (setScript rest s))) := by
  simp [busConfigure, ho, nextAnswer_of_script h, dropAnswer_of_script h]

theorem busConfigure_ok {p : Purpose} {s : State} {r : Response} {rest : List BusAnswer} (ho : s.hopen = true)
    (h : s.env.script = .ok r :: rest) :
    busConfigure p s = .next (afterConfig p (logBus (configuredEvent true) (setScript rest s))) := by
  simp [busConfigure, ho, nextAnswer_of_script h, dropAnswer_of_script h]

theorem busTransfer_fail {p : Purpose} {tx : List Byte} {f : Response → State → State} {s : State}
    {rest : List BusAnswer} (ho : s.hopen = true) (h : s.env.script = .fail :: rest) :
    busTransfer p tx f s =
      .next (goto (.closing p (.ends .transferFailed)) (logBus (.transferred tx tx.length none) (setScript rest s))) := by
  simp [busTransfer, ho, nextAnswer_of_script h, dropAnswer_of_script h]

theorem busTransfer_ok {p : Purpose} {tx : List Byte} {f : Response → State → State} {s : State} {r : Response}
    {rest : List BusAnswer} (ho : s.hopen = true) (h : s.env.script = .ok r :: rest) :
    busTransfer p tx f s =
      .next (f r (logBus (.transferred tx tx.length (some (r.toList.take tx.length))) (setScript rest s))) := by
  simp [busTransfer, ho, nextAnswer_of_script h, dropAnswer_of_script h]

/-- An answer that has not come leaves the engine in its phase (R291). -/
theorem busOpen_pending {p : Purpose} {s : State} {rest : List BusAnswer} (ho : s.hopen = false)
    (h : s.env.script = .pending :: rest) : busOpen p s = .next (setScript rest s) := by
  simp [busOpen, ho, nextAnswer_of_script h, dropAnswer_of_script h]

theorem busConfigure_pending {p : Purpose} {s : State} {rest : List BusAnswer} (ho : s.hopen = true)
    (h : s.env.script = .pending :: rest) : busConfigure p s = .next (setScript rest s) := by
  simp [busConfigure, ho, nextAnswer_of_script h, dropAnswer_of_script h]

theorem busTransfer_pending {p : Purpose} {tx : List Byte} {f : Response → State → State} {s : State}
    {rest : List BusAnswer} (ho : s.hopen = true) (h : s.env.script = .pending :: rest) :
    busTransfer p tx f s = .next (setScript rest s) := by
  simp [busTransfer, ho, nextAnswer_of_script h, dropAnswer_of_script h]

theorem busClose_ok {after : After} {s : State} (ho : s.hopen = true) :
    busClose after s = .next (goto (phaseAfter after) (setHandle false (logBus .closed s))) := by
  simp [busClose, ho]

/-! ## One engine step, by its phase -/

/-- With a silent host a step is one step of the running command's plan. -/
theorem step_of_plan {s : State} (hs : s.env.sched = []) : step s = runPlan (runningPlan s) s := by
  rw [step_of_silent hs, engineStep_eq_runPlan]

theorem runPlan_opening {c : Plan} {s : State} {p : Purpose} (hp : s.phase = .opening p) (hm : p ∈ c.cycles) :
    runPlan c s = busOpen p s := by
  simp [runPlan, hp, hm]

theorem runPlan_config {c : Plan} {s : State} {p : Purpose} (hp : s.phase = .config p) (hm : p ∈ c.cycles) :
    runPlan c s = busConfigure p s := by
  simp [runPlan, hp, hm]

theorem runPlan_probe {c : Plan} {s : State} (hp : s.phase = .xfer .probe) (hm : .probe ∈ c.cycles) :
    runPlan c s = busTransfer .probe (probeTx s) (fun rx t => c.probed (probeReady rx t) t) s := by
  simp [runPlan, hp, hm, transferStep]

theorem runPlan_sample {c : Plan} {s : State} (hp : s.phase = .xfer .sample) (hm : .sample ∈ c.cycles) :
    runPlan c s = busTransfer .sample (sampleTx s) (sampleReceived c) s := by
  simp [runPlan, hp, hm, transferStep]

theorem runPlan_closing {c : Plan} {s : State} {p : Purpose} {after : After} (hp : s.phase = .closing p after)
    (hm : p ∈ c.cycles) : runPlan c s = busClose after s := by
  simp [runPlan, hp, hm]

theorem runPlan_finish {c : Plan} {s : State} {code : ErrCode} (hp : s.phase = .finish code) :
    runPlan c s = .next (finishStep c.effect code s) := by
  simp [runPlan, hp]

theorem runPlan_check {c : Plan} {s : State} (hp : s.phase = .check) : runPlan c s = .next (checkStep c s) := by
  simp [runPlan, hp]

/-! ## Small facts about what is sent and what runs -/

@[simp] theorem sampleTx_length (s : State) : (sampleTx s).length = 10 := by simp [sampleTx, gainSeq]

@[simp] theorem probeTx_length (s : State) : (probeTx s).length = probeLen s := by simp [probeTx]

theorem probeLen_le (s : State) : probeLen s ≤ 10 := by unfold probeLen; split <;> omega

/-- The running command depends on the latched word only. -/
theorem runningPlan_congr {s t : State} (h : t.cmdL = s.cmdL) : runningPlan t = runningPlan s := by
  simp [runningPlan, h]

theorem probeReady_congr {s t : State} (h : t.params = s.params) (r : Response) : probeReady r t = probeReady r s := by
  simp [probeReady, probeLen, h]

theorem probeTx_congr {s t : State} (h : t.params = s.params) : probeTx t = probeTx s := by
  simp [probeTx, probeLen, h]

theorem sampleTx_congr {s t : State} (h : t.gain = s.gain) : sampleTx t = sampleTx s := by
  simp [sampleTx, h]

/-- The running plan is a command's or the illegal word's. -/
theorem runningPlan_cases (s : State) :
    (∃ i, decode s.cmdL = .command i ∧ runningPlan s = planOf i) ∨
    (∃ why, decode s.cmdL = .illegal why ∧ runningPlan s = illegalPlan) := by
  unfold runningPlan
  cases decode s.cmdL with
  | command i => exact .inl ⟨i, rfl, rfl⟩
  | illegal why => exact .inr ⟨why, rfl, rfl⟩

/-! ## Runs, a step at a time -/

theorem runFor_succ {n : Nat} {s t : State} (h : step s = .next t) : runFor (n + 1) s = runFor n t := by
  simp only [runFor, h]

theorem runFor_one {s t : State} (h : step s = .next t) : runFor 1 s = .next t := by
  rw [runFor_succ h]; rfl

/-! ## A bus cycle that succeeds -/

/-- After a successful `BusOpen`. -/
def openedState (p : Purpose) (rest : List BusAnswer) (s : State) : State :=
  goto (.config p) (setHandle true (logBus (.opened Config.busId true) (setScript rest s)))

/-- After a successful `BusConfigure` of a cycle with a transfer. -/
def configuredState (p : Purpose) (rest : List BusAnswer) (s : State) : State :=
  goto (.xfer p) (logBus (configuredEvent true) (setScript rest s))

/-- After a successful `BusTransfer`, before the step that receives the answer goes on. -/
def receivedState (tx : List Byte) (r : Response) (rest : List BusAnswer) (s : State) : State :=
  logBus (.transferred tx tx.length (some (r.toList.take tx.length))) (setScript rest s)

/-- The three in a row. -/
def answeredState (p : Purpose) (tx : List Byte) (r : Response) (rest : List BusAnswer) (s : State) : State :=
  receivedState tx r rest (configuredState p (.ok r :: rest) (openedState p (.ok zeroResponse :: .ok r :: rest) s))

theorem step_opened {s : State} {p : Purpose} {r : Response} {rest : List BusAnswer} (hs : s.env.sched = [])
    (hp : s.phase = .opening p) (hm : p ∈ (runningPlan s).cycles) (ho : s.hopen = false)
    (h : s.env.script = .ok r :: rest) : step s = .next (openedState p rest s) := by
  rw [step_of_plan hs, runPlan_opening hp hm, busOpen_ok ho h]; rfl

theorem step_configured {s : State} {p : Purpose} {r : Response} {rest : List BusAnswer} (hs : s.env.sched = [])
    (hp : s.phase = .config p) (hm : p ∈ (runningPlan s).cycles) (hn : p ≠ .trial) (ho : s.hopen = true)
    (h : s.env.script = .ok r :: rest) : step s = .next (configuredState p rest s) := by
  rw [step_of_plan hs, runPlan_config hp hm, busConfigure_ok ho h]
  cases p with
  | trial => exact absurd rfl hn
  | probe => rfl
  | sample => rfl

theorem step_probed {s : State} {r : Response} {rest : List BusAnswer} (hs : s.env.sched = [])
    (hp : s.phase = .xfer .probe) (hm : .probe ∈ (runningPlan s).cycles) (ho : s.hopen = true)
    (h : s.env.script = .ok r :: rest) :
    step s = .next ((runningPlan s).probed (probeReady r s) (receivedState (probeTx s) r rest s)) := by
  rw [step_of_plan hs, runPlan_probe hp hm, busTransfer_ok ho h]
  rfl

theorem step_sampled {s : State} {r : Response} {rest : List BusAnswer} (hs : s.env.sched = [])
    (hp : s.phase = .xfer .sample) (hm : .sample ∈ (runningPlan s).cycles) (ho : s.hopen = true)
    (h : s.env.script = .ok r :: rest) :
    step s = .next (sampleReceived (runningPlan s) r (receivedState (sampleTx s) r rest s)) := by
  rw [step_of_plan hs, runPlan_sample hp hm, busTransfer_ok ho h]
  rfl

/-- Two steps open and configure. -/
theorem cycleStart_run {s : State} {p : Purpose} {r1 r2 : Response} {rest : List BusAnswer} (hs : s.env.sched = [])
    (hp : s.phase = .opening p) (hm : p ∈ (runningPlan s).cycles) (hn : p ≠ .trial) (ho : s.hopen = false)
    (hsc : s.env.script = .ok r1 :: .ok r2 :: rest) :
    runFor 2 s = .next (configuredState p rest (openedState p (.ok r2 :: rest) s)) := by
  rw [runFor_succ (step_opened hs hp hm ho hsc)]
  have hr := runningPlan_congr (s := s) (t := openedState p (.ok r2 :: rest) s) (by simp [openedState])
  have hm' : p ∈ (runningPlan (openedState p (.ok r2 :: rest) s)).cycles := by rw [hr]; exact hm
  exact runFor_one (step_configured (r := r2) (by simpa [openedState] using hs) (by simp [openedState]) hm' hn
    (by simp [openedState]) (by simp [openedState]))

/-- Three steps of a probe cycle whose transactions succeed lead to the command's probe step (R120, R129). -/
theorem probeCycle_run {s : State} {r : Response} {rest : List BusAnswer} (hs : s.env.sched = [])
    (hp : s.phase = .opening .probe) (hm : .probe ∈ (runningPlan s).cycles) (ho : s.hopen = false)
    (hsc : s.env.script = cycleAnswers r ++ rest) :
    runFor 3 s = .next ((runningPlan s).probed (probeReady r s) (answeredState .probe (probeTx s) r rest s)) := by
  have hsc' : s.env.script = .ok zeroResponse :: .ok zeroResponse :: .ok r :: rest := hsc
  rw [runFor_add (n := 2) (m := 1) (cycleStart_run hs hp hm (by decide) ho hsc')]
  have hr := runningPlan_congr (s := s)
    (t := configuredState .probe (.ok r :: rest) (openedState .probe (.ok zeroResponse :: .ok r :: rest) s))
    (by simp [configuredState, openedState])
  have h := step_probed (r := r) (rest := rest)
    (s := configuredState .probe (.ok r :: rest) (openedState .probe (.ok zeroResponse :: .ok r :: rest) s))
    (by simpa [configuredState, openedState] using hs) (by simp [configuredState]) (by rw [hr]; exact hm)
    (by simp [configuredState, openedState]) (by simp [configuredState])
  rw [hr, probeReady_congr (s := s) (by simp [configuredState, openedState]),
    probeTx_congr (s := s) (by simp [configuredState, openedState])] at h
  exact runFor_one h

/-- Three steps of a sample cycle whose transactions succeed lead to the command's sample step (R120, R152). -/
theorem sampleCycle_run {s : State} {r : Response} {rest : List BusAnswer} (hs : s.env.sched = [])
    (hp : s.phase = .opening .sample) (hm : .sample ∈ (runningPlan s).cycles) (ho : s.hopen = false)
    (hsc : s.env.script = cycleAnswers r ++ rest) :
    runFor 3 s = .next (sampleReceived (runningPlan s) r (answeredState .sample (sampleTx s) r rest s)) := by
  have hsc' : s.env.script = .ok zeroResponse :: .ok zeroResponse :: .ok r :: rest := hsc
  rw [runFor_add (n := 2) (m := 1) (cycleStart_run hs hp hm (by decide) ho hsc')]
  have hr := runningPlan_congr (s := s)
    (t := configuredState .sample (.ok r :: rest) (openedState .sample (.ok zeroResponse :: .ok r :: rest) s))
    (by simp [configuredState, openedState])
  have h := step_sampled (r := r) (rest := rest)
    (s := configuredState .sample (.ok r :: rest) (openedState .sample (.ok zeroResponse :: .ok r :: rest) s))
    (by simpa [configuredState, openedState] using hs) (by simp [configuredState]) (by rw [hr]; exact hm)
    (by simp [configuredState, openedState]) (by simp [configuredState])
  rw [hr, sampleTx_congr (s := s) (by simp [configuredState, openedState])] at h
  exact runFor_one h

/-- The closing step of a cycle, which always completes (R74). -/
theorem step_closing {s : State} {p : Purpose} {after : After} (hs : s.env.sched = [])
    (hp : s.phase = .closing p after) (hm : p ∈ (runningPlan s).cycles) (ho : s.hopen = true) :
    step s = .next (goto (phaseAfter after) (setHandle false (logBus .closed s))) := by
  rw [step_of_plan hs, runPlan_closing hp hm, busClose_ok ho]

/-- The FINISH step (R241). -/
theorem step_finish {s : State} {code : ErrCode} (hs : s.env.sched = []) (hp : s.phase = .finish code) :
    step s = .next (finishStep (runningPlan s).effect code s) := by
  rw [step_of_plan hs, runPlan_finish hp]

/-- The CHECK step (R243). -/
theorem step_check {s : State} (hs : s.env.sched = []) (hp : s.phase = .check) :
    step s = .next (checkStep (runningPlan s) s) := by
  rw [step_of_plan hs, runPlan_check hp]

end Sys2Proof.Machine
end

