-- ==== Sys2Proof/Laws/Runs.lean ====
section
/-! SUPPORT. Runs of the reading commands, a bus cycle at a time: a probe cycle that waits, gives up or goes on, a
sample cycle up to its answer, and one turn of the averaging loop. The host is silent and the answers are settled
on. -/

namespace Sys2Proof.Machine

/-- The commands that read samples poll with the same loop (R150). -/
theorem reading_plan {i : Instr} (h : i = .readOne ∨ isAveraging i = true) :
    (planOf i).cycles = [.probe, .sample] ∧ (planOf i).probed = pollDecision := by
  cases i <;> simp [isAveraging] at h <;> exact ⟨rfl, rfl⟩

/-- The averaging commands share everything but their checks and effects (R180 to R182). -/
theorem averaging_plan {i : Instr} (h : isAveraging i = true) :
    (planOf i).cycles = [.probe, .sample] ∧ (planOf i).start = startAverage ∧ (planOf i).probed = pollDecision ∧
      (planOf i).sampled = averageSample := by
  cases i <;> first | (cases h; done) | exact ⟨rfl, rfl, rfl, rfl⟩

/-- A response of zeros is ready (R129). -/
theorem zeroResponse_ready (s : State) : probeReady zeroResponse s = true := by
  unfold probeReady probeLen zeroResponse; split <;> decide

/-- The state once a cycle's three transactions have been answered, written out. -/
theorem answeredState_eq (p : Purpose) (tx : List Byte) (r : Response) (rest : List BusAnswer) (s : State) :
    answeredState p tx r rest s = { s with
      hopen := true, phase := .xfer p
      env := { s.env with
        script := rest
        busLog := [.transferred tx tx.length (some (r.toList.take tx.length)),
          .configured Config.busFreqHz Config.busMode 8 true, .opened Config.busId true] ++ s.env.busLog } } := by
  simp [answeredState, receivedState, configuredState, openedState, goto, logBus, setScript, setHandle,
    configuredEvent, busWordBits]

/-- The state a close leaves, written out. -/
theorem closedState_eq (ph : Phase) (s : State) :
    goto ph (setHandle false (logBus .closed s)) = { s with
      hopen := false, phase := ph, env := { s.env with busLog := .closed :: s.env.busLog } } := by
  simp [goto, logBus, setHandle]

/-- A probe cycle of a reading command, by what its poll decision is. -/
theorem probeCycle_decided {i : Instr} {s : State} {r : Response} {rest : List BusAnswer} {tx : List Byte}
    {after : After} {n : Nat} (hi : i = .readOne ∨ isAveraging i = true) (hd : decode s.cmdL = .command i)
    (hp : s.phase = .opening .probe) (ho : s.hopen = false) (hs : s.env.sched = [])
    (hsc : s.env.script = cycleAnswers r ++ rest) (htx : probeTx s = tx)
    (hpd : ∀ u : State, u.params = s.params → u.polls = s.polls →
      pollDecision (probeReady r s) u = goto (.closing .probe after) { u with polls := n }) :
    runFor 4 s = .next { s with
      polls := n, phase := phaseAfter after
      env := { s.env with script := rest, busLog := cycleLog tx (r.toList.take tx.length) ++ s.env.busLog } } := by
  subst htx
  obtain ⟨hc, hpr⟩ := reading_plan hi
  have hr : runningPlan s = planOf i := by simp [runningPlan, hd]
  have h3 := probeCycle_run hs hp (by rw [hr, hc]; simp) ho hsc
  rw [hr, hpr, hpd (answeredState .probe (probeTx s) r rest s) (by simp [answeredState_eq]) (by simp [answeredState_eq]),
    answeredState_eq] at h3
  rw [show 4 = 3 + 1 from rfl, runFor_add h3]
  simp only [goto]
  rw [runFor_one (step_closing (p := .probe) (after := after) (by simpa using hs) rfl
    (by simp [runningPlan, hd, hc]) rfl), closedState_eq]
  simp [ho, cycleLog]

/-- Not ready and polls left: back at the open of a probe cycle with one more poll counted (R150). -/
theorem probeCycle_waits {i : Instr} {s : State} {r : Response} {rest : List BusAnswer} {tx : List Byte}
    (hi : i = .readOne ∨ isAveraging i = true) (hd : decode s.cmdL = .command i) (hp : s.phase = .opening .probe)
    (ho : s.hopen = false) (hs : s.env.sched = []) (hsc : s.env.script = cycleAnswers r ++ rest)
    (htx : probeTx s = tx) (hn : probeReady r s = false)
    (hl : ∀ limit, s.params.pollLimit = some limit → s.polls + 1 < limit) :
    runFor 4 s = .next { s with
      polls := s.polls + 1
      env := { s.env with script := rest, busLog := cycleLog tx (r.toList.take tx.length) ++ s.env.busLog } } := by
  have h := probeCycle_decided (after := .again .probe) (n := s.polls + 1) hi hd hp ho hs hsc htx (by
    intro u h1 h2
    obtain ⟨h, _⟩ | ⟨_, ⟨l, hl', hl''⟩, h⟩ | ⟨_, _, h⟩ := pollDecision_cases (probeReady r s) u
    · rw [hn] at h; cases h
    · have := hl l (h1 ▸ hl'); omega
    · rw [h, h2])
  rw [h]; simp [phaseAfter, hp]

/-- Not ready and the limit reached: NOT_READY (R150). -/
theorem probeCycle_givesUp {i : Instr} {s : State} {r : Response} {rest : List BusAnswer} {tx : List Byte}
    {limit : Nat} (hi : i = .readOne ∨ isAveraging i = true) (hd : decode s.cmdL = .command i)
    (hp : s.phase = .opening .probe) (ho : s.hopen = false) (hs : s.env.sched = [])
    (hsc : s.env.script = cycleAnswers r ++ rest) (htx : probeTx s = tx) (hn : probeReady r s = false)
    (hl : s.params.pollLimit = some limit) (hle : limit ≤ s.polls + 1) :
    runFor 4 s = .next { s with
      polls := s.polls + 1, phase := .finish .notReady
      env := { s.env with script := rest, busLog := cycleLog tx (r.toList.take tx.length) ++ s.env.busLog } } := by
  have h := probeCycle_decided (after := .ends .notReady) (n := s.polls + 1) hi hd hp ho hs hsc htx (by
    intro u h1 h2
    obtain ⟨h, _⟩ | ⟨_, _, h⟩ | ⟨_, h3, h⟩ := pollDecision_cases (probeReady r s) u
    · rw [hn] at h; cases h
    · rw [h, h2]
    · have := h3 limit (h1 ▸ hl); omega)
  rw [h]; simp [phaseAfter]

/-- Ready: on to the sample cycle (R150). -/
theorem probeCycle_goesOn {i : Instr} {s : State} {r : Response} {rest : List BusAnswer} {tx : List Byte}
    (hi : i = .readOne ∨ isAveraging i = true) (hd : decode s.cmdL = .command i) (hp : s.phase = .opening .probe)
    (ho : s.hopen = false) (hs : s.env.sched = []) (hsc : s.env.script = cycleAnswers r ++ rest)
    (htx : probeTx s = tx) (hn : probeReady r s = true) :
    runFor 4 s = .next { s with
      phase := .opening .sample
      env := { s.env with script := rest, busLog := cycleLog tx (r.toList.take tx.length) ++ s.env.busLog } } := by
  have h := probeCycle_decided (after := .again .sample) (n := s.polls) hi hd hp ho hs hsc htx (by
    intro u h1 h2
    rw [hn, ← h2]; rfl)
  rw [h]; simp [phaseAfter]

/-- A reading command's sample cycle up to the step that receives the response (R152). -/
theorem sampleCycle_received {i : Instr} {s : State} {r : Response} {rest : List BusAnswer} {tx : List Byte}
    (hi : i = .readOne ∨ isAveraging i = true) (hd : decode s.cmdL = .command i) (hp : s.phase = .opening .sample)
    (ho : s.hopen = false) (hs : s.env.sched = []) (hsc : s.env.script = cycleAnswers r ++ rest)
    (htx : sampleTx s = tx) :
    runFor 3 s = .next (sampleReceived (planOf i) r (answeredState .sample tx r rest s)) := by
  subst htx
  obtain ⟨hc, -⟩ := reading_plan hi
  have hr : runningPlan s = planOf i := by simp [runningPlan, hd]
  have h3 := sampleCycle_run hs hp (by rw [hr, hc]; simp) ho hsc
  rw [hr] at h3
  exact h3

/-- One turn of the averaging loop with a sample that is ready at once and valid: a probe cycle and a sample cycle,
the sample added and counted, then the next turn or the end (R181). -/
theorem averageTurn_run {i : Instr} {s : State} {r : Response} {rest : List BusAnswer} (hi : isAveraging i = true)
    (hd : decode s.cmdL = .command i) (hp : s.phase = .opening .probe) (ho : s.hopen = false) (hs : s.env.sched = [])
    (h0 : s.polls = 0) (hv : validResponse r = true) (hsc : s.env.script = sampleAnswers r ++ rest) :
    ∃ log, log.length = 8 ∧ runFor 8 s = .next { s with
      acc := s.acc + (sampleOf s.params.decodeSelect r).signExtend 64, k := s.k + 1
      raw0 := raw0Of r, raw1 := raw1Of r, raw2 := raw2Of r
      phase := if ((s.k + 1).toNat : Int) < countN s then .opening .probe else .finish .none
      env := { s.env with script := rest, busLog := log ++ s.env.busLog } } := by
  obtain ⟨hc, -, -, hsp⟩ := averaging_plan hi
  have h1 := probeCycle_goesOn (r := zeroResponse) (rest := cycleAnswers r ++ rest) (.inr hi) hd hp ho hs
    (by rw [hsc]; simp [sampleAnswers]) rfl (zeroResponse_ready s)
  have h2 := sampleCycle_received
    (s := { s with
      phase := .opening .sample
      env := { s.env with
        script := cycleAnswers r ++ rest
        busLog := cycleLog (probeTx s) (zeroResponse.toList.take (probeTx s).length) ++ s.env.busLog } })
    (r := r) (rest := rest) (tx := sampleTx s) (.inr hi) hd rfl ho hs rfl (sampleTx_congr (s := s) rfl)
  rw [answeredState_eq] at h2
  refine ⟨cycleLog (sampleTx s) (r.toList.take (sampleTx s).length)
    ++ cycleLog (probeTx s) (zeroResponse.toList.take (probeTx s).length), by simp [cycleLog], ?_⟩
  rw [show 8 = 4 + (3 + 1) from rfl, runFor_add h1, runFor_add h2]
  simp only [sampleReceived, hv, if_true, hsp]
  generalize hg : writeRaw r _ = g
  have hgk : g.k = s.k ∧ countN g = countN s := by subst hg; exact ⟨rfl, rfl⟩
  obtain ⟨hlt, h⟩ | ⟨hlt, h⟩ := averageSample_cases (sampleOf s.params.decodeSelect r) g <;> rw [h] <;>
    simp only [hgk] at hlt <;> subst hg <;> simp only [startPoll, accumulate, goto, writeRaw]
  · rw [runFor_one (step_closing (p := .sample) (after := .again .probe) (by simpa using hs) rfl
      (by simp [runningPlan, hd, hc]) rfl), closedState_eq, if_pos hlt]
    simp [phaseAfter, ho, h0, cycleLog]
  · rw [runFor_one (step_closing (p := .sample) (after := .ends .none) (by simpa using hs) rfl
      (by simp [runningPlan, hd, hc]) rfl), closedState_eq, if_neg hlt]
    simp [phaseAfter, ho, cycleLog]

end Sys2Proof.Machine
end

