-- ==== Sys2Proof/Tests/Slice0.lean ====
section
/-! SUPPORT. Tests. Expected values come from spec/95_test_vectors.md (V<n>) or from the rule a comment names. The last
part has, for each statement with hypotheses, a concrete state and operands that meet them. -/

namespace Sys2Proof.Tests

open Sys2Proof Sys2Proof.Machine

/-! ## States the tests start from -/

/-- A command running in a phase and an environment, after reset, with one sample asked for and the operand 1.0. -/
def runningIn (e : Env) (i : Instr) (ph : Phase) : State :=
  { State.reset with
    cmdL := encode i, nL := 1, fpL := scaleOne, busy := true, phase := ph, hopen := holdsHandle ph, env := e }

/-- With a silent host and no answer settled on. -/
def running (i : Instr) (ph : Phase) : State := runningIn emptyEnv i ph

/-- With the host's moves to come. -/
def moves (ms : List HostMove) (s : State) : State := dropMove ms s

/-- With other parameters than the defaults. -/
def withParams (p : Params) (s : State) : State := { s with params := p }

/-- A field of the next state. -/
def seen {α : Type} (r : Result) (f : State → α) : Option α :=
  match r with
  | .next t => some (f t)
  | .fault _ => none
  | .refused _ => none

/-- Where a step stops without a next state. -/
def refusal (r : Result) : Option Refusal :=
  match r with
  | .next _ => none
  | .fault _ => none
  | .refused x => some x

/-- The response of a sample with non-data bits and byte 6 zero: 7, 1000 (V17). -/
def sample7 : Response := #v[0xAA, 0xAA, 0xAA, 0xAA, 0xAA, 0x02, 0x00, 0x00, 0x00, 0x00]
def sample1000 : Response := #v[0xAA, 0xAA, 0xAA, 0x0A, 0x80, 0xA8, 0x00, 0x00, 0x00, 0x00]
/-- V3: a nonzero byte 7. -/
def badResponse : Response := #v[0xAA, 0xAA, 0xAA, 0xAA, 0xAA, 0xAA, 0x00, 0x01, 0x00, 0x00]
/-- A probe that is not ready. -/
def busyResponse : Response := #v[0xFF, 0x00, 0x00, 0x00, 0x00, 0x00, 0x00, 0x00, 0x00, 0x00]

/-! ## Well-formed words: one ill-formed word for each check of R95 -/

theorem test_wf_opcode : opcodeOk 0x0000000D#32 = false ∧ legalWord 0x0000000D#32 = false ∧
    reservedOk 0x0000000D#32 = true ∧ gainFieldOk 0x0000000D#32 = true := by decide
theorem test_wf_reserved : reservedOk 0x00000401#32 = false ∧ legalWord 0x00000401#32 = false ∧
    opcodeOk 0x00000401#32 = true ∧ gainFieldOk 0x00000401#32 = true := by decide
theorem test_wf_gain : gainFieldOk 0x00000107#32 = false ∧ legalWord 0x00000107#32 = false ∧
    opcodeOk 0x00000107#32 = true ∧ reservedOk 0x00000107#32 = true := by decide
theorem test_wf_legal : legalWord 0x00000301#32 = true ∧ legalWord 0x0000000C#32 = true := by decide

/-! ## Words written out from R90, R92 and R96: RSV (22 bits), G (2), OPC (8) -/

theorem test_word_nop : decode 0b00000000000000000000000000000000#32 = .command .nop := by decide
theorem test_word_init : decode 0b00000000000000000000001000000001#32 = .command (.init 2) := by decide
theorem test_word_setGain : decode 0b00000000000000000000000100000010#32 = .command (.setGain 1) := by decide
theorem test_word_setOffset : decode 0b00000000000000000000000000000011#32 = .command .setOffset := by decide
theorem test_word_setScale : decode 0b00000000000000000000000000000100#32 = .command .setScale := by decide
theorem test_word_getOffset : decode 0b00000000000000000000000000000101#32 = .command .getOffset := by decide
theorem test_word_isReady : decode 0b00000000000000000000000000000110#32 = .command .isReady := by decide
theorem test_word_readOne : decode 0b00000000000000000000000000000111#32 = .command .readOne := by decide
theorem test_word_readAvg : decode 0b00000000000000000000000000001000#32 = .command .readAvg := by decide
theorem test_word_getUnits : decode 0b00000000000000000000000000001001#32 = .command .getUnits := by decide
theorem test_word_tare : decode 0b00000000000000000000000000001010#32 = .command .tare := by decide
theorem test_word_calibrate : decode 0b00000000000000000000000000001011#32 = .command .calibrate := by decide
theorem test_word_close : decode 0b00000000000000000000000000001100#32 = .command .close := by decide

/-- V9: the illegal words, the reserved bits checked before the gain code. -/
theorem test_words_illegal :
    [0x00000400#32, 0x00000401#32, 0x80000007#32, 0xFFFFFFFF#32, 0x00000701#32].map decode
      = List.replicate 5 (.illegal .reservedBits) ∧
    [0x00000100#32, 0x00000107#32, 0x0000020C#32].map decode = List.replicate 3 (.illegal .strayGain) ∧
    [0x0000000D#32, 0x000000FF#32].map decode = List.replicate 2 (.illegal .reservedOpcode) := by decide

/-- R62: the bytes of INIT G=2's word, lowest address first. -/
theorem test_word_bytes : decodeBytes [0x01, 0x02, 0x00, 0x00] = some (.command (.init 2)) ∧
    decodeBytes [0x00, 0x00, 0x02, 0x01] = some (.illegal .reservedBits) := by decide

/-! ## The decoder of samples -/

/-- V16: the nibble of a response byte. -/
theorem test_nibbles : [0x00#8, 0xFF, 0xAA, 0x55, 0x40, 0x02, 0x80, 0x2A, 0xA8, 0x08, 0x20, 0x5C].map
    (fun r => nibbleOf defaultSelect (~~~r)) = [0xF#4, 0x0, 0x0, 0xF, 0xF, 0x7, 0xE, 0x1, 0x8, 0xB, 0xD, 0xB] := by decide

/-- V17: 1193046, 8388607, -250 and -8388608. -/
theorem test_samples :
    (sampleOf defaultSelect #v[0x2A, 0x8A, 0x0A, 0xA2, 0x22, 0x82, 0, 0, 0, 0]).toInt = 1193046 ∧
    (sampleOf defaultSelect #v[0x02, 0x00, 0x00, 0x00, 0x00, 0x00, 0, 0, 0, 0]).toInt = 8388607 ∧
    (sampleOf defaultSelect #v[0x00, 0x00, 0x00, 0x00, 0xAA, 0x82, 0, 0, 0, 0]).toInt = -250 ∧
    (sampleOf defaultSelect #v[0xA8, 0xAA, 0xAA, 0xAA, 0xAA, 0xAA, 0, 0, 0, 0]).toInt = -8388608 := by decide

/-- V18: validation. -/
theorem test_validation :
    validResponse zeroResponse = false ∧ validResponse #v[0, 0, 0, 0, 0, 0, 0x01, 0, 0, 0] = true ∧
    validResponse #v[0x55, 0, 0, 0, 0, 0, 0, 0, 0, 0] = true ∧
    validResponse #v[0xAA, 0xAA, 0xAA, 0xAA, 0xAA, 0xAA, 0, 0, 0, 0x01] = false ∧
    validResponse badResponse = false := by decide

/-! ## The host window -/

/-- V34: DONE and OVR clear by ones, BUSY and ERR do not. -/
theorem test_status_write :
    seen (hostWrite 0x04 4 0xFFFFFFFF#32 { State.reset with done := true, ovr := true, err := .invalidResponse })
      statusWord = some 0x00000300#32 ∧
    seen (hostWrite 0x04 4 0x00000004#32 { State.reset with done := true, ovr := true, err := .invalidResponse })
      statusWord = some 0x00000302#32 ∧
    seen (hostWrite 0x04 4 0x00000001#32 { State.reset with done := true }) statusWord = some 0x00000002#32 := by decide

/-- V34, V35: acceptance keeps OVR; a command written while one runs is lost. -/
theorem test_cmd_write :
    seen (hostWrite 0x00 4 0x00000000#32 { State.reset with done := true, ovr := true, err := .invalidResponse })
      statusWord = some 0x00000005#32 ∧
    seen (hostWrite 0x00 4 0x00000005#32 (running .readOne (.opening .probe))) (fun t => (statusWord t, t.cmdL))
      = some (0x00000005#32, 0x00000007#32) := by decide

/-- V36: a byte read and an unaligned read are refused; offset 0x3C is inside the window. -/
theorem test_refused_access :
    refusal (hostRead 0x05 1 State.reset) = some (.undefinedAccess 0x05 1) ∧
    refusal (hostWrite 0x08 2 0#32 State.reset) = some (.undefinedAccess 0x08 2) ∧
    refusal (hostRead 0x06 4 State.reset) = some (.undefinedAccess 0x06 4) ∧
    refusal (hostRead 0x3C 4 State.reset) = none := by decide

/-- V37: reset in the transfer of a sample closes the handle and completes nothing. -/
theorem test_reset :
    seen (step (moves [.reset] { running .readAvg (.xfer .sample) with gain := 0, offset := 9, scale := 0 }))
      (fun t => (statusWord t, t.gain, t.offset, t.scale, t.env.busLog))
      = some (0#32, 2#2, 0#32, 0x3FF0000000000000#64, [.closed]) := by decide

/-- R292, R99: the turns of a WAIT's first gap come next, and it reads again after them. -/
theorem test_wait : seen (step (moves [.wait [[.write 0x08 4 3#32, .reset]], .engine] (running .readOne (.xfer .probe))))
    (fun t => t.env.sched) = some [.write 0x08 4 3#32, .reset, .wait [], .engine] := by decide

/-! ## Commands, one step each -/

/-- V33: STATUS after NOP. -/
theorem test_nop : seen (exec .nop (running .nop (.finish .none))) statusWord = some 0x00000002#32 := by decide

/-- V15: INIT G=0 from GAIN 2, OFFSET 55, SCALE 3.0. -/
theorem test_init : seen (exec (.init 0)
      { running (.init 0) (.finish .none) with gain := 2, offset := 55, scale := 0x4008000000000000#64 })
    (fun t => (t.gain, t.offset, t.scale)) = some (0#2, 0#32, 0x3FF0000000000000#64) := by decide

/-- V15: a failed open leaves no handle and ends with code 1. -/
theorem test_init_fails : seen (exec (.init 1) (setScript [.fail] (running (.init 1) (.opening .trial))))
    (fun t => (t.phase, t.hopen, t.gain)) = some (.finish .busUnavailable, false, 2#2) := by decide

/-- V31: SET_GAIN G=1. -/
theorem test_setGain : seen (exec (.setGain 1) (running (.setGain 1) (.finish .none)))
    (fun t => (t.gain, statusWord t)) = some (1#2, 0x00000002#32) := by decide

/-- V31: SET_GAIN G=3. -/
theorem test_setGain_three : seen (exec (.setGain 3) (running (.setGain 3) .check))
    (fun t => (t.phase, t.gain)) = some (.finish .invalidArgument, 2#2) := by decide

/-- R213: SET_OFFSET with -5. -/
theorem test_setOffset : seen (exec .setOffset { running .setOffset (.finish .none) with intL := 0xFFFFFFFB#32 })
    (fun t => t.offset.toInt) = some (-5) := by decide

/-- V32: SET_SCALE stores a NaN unchanged. -/
theorem test_setScale : seen (exec .setScale
      { running .setScale (.finish .none) with fpL := 0xFFF00000#32 ++ 0x00000001#32 })
    (fun t => (t.scale, t.err)) = some (0xFFF0000000000001#64, .none) := by decide

/-- R215: GET_OFFSET after TARE stored 101. -/
theorem test_getOffset : seen (exec .getOffset { running .getOffset (.finish .none) with offset := 101 })
    (fun t => t.resInt) = some 101#32 := by decide

/-- V10, V11: a probe of one byte. -/
theorem test_isReady :
    seen (exec .isReady (setScript [.ok zeroResponse] (running .isReady (.xfer .probe)))) (fun t => t.val) = some 1#32 ∧
    seen (exec .isReady (setScript [.ok #v[0x80, 0, 0, 0, 0, 0, 0, 0, 0, 0]] (running .isReady (.xfer .probe))))
      (fun t => t.val) = some 0#32 := by decide

/-- V13: with PROBE_LEN = 10 a nonzero last byte is not ready; with 1 it is no part of the answer. -/
theorem test_isReady_ten :
    seen (exec .isReady (setScript [.ok #v[0, 0, 0, 0, 0, 0, 0, 0, 0, 0x01]]
      (withParams { defaultParams with probeLen := .ten } (running .isReady (.xfer .probe))))) (fun t => t.val)
      = some 0#32 ∧
    seen (exec .isReady (setScript [.ok #v[0, 0, 0, 0, 0, 0, 0, 0, 0, 0x01]] (running .isReady (.xfer .probe))))
      (fun t => t.val) = some 1#32 := by decide

/-- V1: the golden response. -/
theorem test_readOne : seen (exec .readOne
      (setScript [.ok #v[0x00, 0x00, 0x00, 0x00, 0x00, 0x40, 0, 0, 0, 0]] (running .readOne (.xfer .sample))))
    (fun t => (t.val, t.raw0, t.raw1, t.raw2, t.phase))
      = some (0xFFFFFFFF#32, 0#32, 0x00004000#32, 0#32, .closing .sample (.ends .none)) := by decide

/-- V3: a response with byte 7 nonzero is captured and rejected. -/
theorem test_readOne_invalid : seen (exec .readOne (setScript [.ok badResponse] (running .readOne (.xfer .sample))))
    (fun t => (t.raw0, t.raw1, t.raw2, t.phase))
      = some (0xAAAAAAAA#32, 0x0100AAAA#32, 0#32, .closing .sample (.ends .invalidResponse)) := by decide

/-- V25: samples -8 and -9. -/
theorem test_readAvg : seen (exec .readAvg
      { running .readAvg (.finish .none) with nL := 2, acc := BitVec.ofInt 64 (-17) })
    (fun t => t.resInt.toInt) = some (-8) := by decide

/-- V26: the subtraction wraps. -/
theorem test_readAvg_wraps : seen (exec .readAvg
      { running .readAvg (.finish .none) with acc := 8388607, offset := 0x80000000#32 })
    (fun t => t.resInt) = some 0x807FFFFF#32 := by decide

/-- V27: 1000 / 3.0, rounded. -/
theorem test_getUnits : seen (exec .getUnits
      { running .getUnits (.finish .none) with acc := 1000, scale := 0x4008000000000000#64, resInt := 42 })
    (fun t => (t.resFpHi, t.resFpLo, t.resInt)) = some (0x4074D555#32, 0x55555555#32, 42#32) := by decide +kernel

/-- V27: 0 / -1.0 and 250 / +0.0. -/
theorem test_getUnits_corners :
    seen (exec .getUnits { running .getUnits (.finish .none) with scale := 0xBFF0000000000000#64 }) resFp
      = some 0x8000000000000000#64 ∧
    seen (exec .getUnits { running .getUnits (.finish .none) with acc := 250, scale := 0 }) resFp
      = some 0x7FF0000000000000#64 := by decide +kernel

/-- V29: samples 100, 101, 102, 104, whatever the old OFFSET. -/
theorem test_tare : seen (exec .tare { running .tare (.finish .none) with nL := 4, acc := 407, offset := 7000 })
    (fun t => t.offset) = some 101#32 := by decide

/-- V28: 1100 / 2.0 with OFFSET ignored, and 1000 over the smallest subnormal overflowing. -/
theorem test_calibrate :
    seen (exec .calibrate
      { running .calibrate (.finish .none) with acc := 1100, offset := 100, fpL := 0x4000000000000000#64 })
      (fun t => t.scale) = some 0x4081300000000000#64 ∧
    seen (exec .calibrate { running .calibrate (.finish .none) with acc := 1000, fpL := 1 })
      (fun t => t.scale) = some 0x7FF0000000000000#64 := by decide +kernel

/-- V28: -0.0, infinity and a NaN are refused; n = 0 is. -/
theorem test_calibrate_check :
    [0x8000000000000000#64, 0x7FF0000000000000#64, 0x7FF8000000000000#64].map
      (fun u => seen (exec .calibrate { running .calibrate .check with fpL := u }) (fun t => t.phase))
      = [some (.finish .invalidArgument), some (.finish .invalidArgument), some (.finish .invalidArgument)] ∧
    seen (exec .calibrate { running .calibrate .check with nL := 0 }) (fun t => t.phase)
      = some (.finish .invalidArgument) := by decide

/-- V33: STATUS after CLOSE. -/
theorem test_close : seen (exec .close { running .close (.finish .none) with done := false }) statusWord
    = some 0x00000002#32 := by decide

/-- V9: an illegal word's CHECK step. -/
theorem test_illegal : seen (step { running .nop .check with cmdL := 0x00000701#32 }) (fun t => (t.phase, t.hopen))
    = some (.finish .illegalCmd, false) := by decide

/-- R99: WR64 and RD64 put the low half at the lower offset; ACK clears DONE and OVR. -/
theorem test_assembler : expandProgram [.wr64 0x4004000000000000#64, .rd64, .ack] =
    [.write 0x10 4 0#32, .write 0x14 4 0x40040000#32, .read 0x20 4, .read 0x24 4, .write 0x04 4 6#32] := by decide

/-! ## Witnesses: states and operands that meet a statement's hypotheses, clause by clause -/

/-- A running command whose phase fits is in a coherent state, whatever the environment. -/
theorem coherent_running {e : Env} {i : Instr} {ph : Phase} (hd : decode (encode i) = .command i) (hp : ph ≠ .idle)
    (hf : PhaseFits (planOf i) (runningIn e i ph)) : Coherent (runningIn e i ph) := by
  refine ⟨by simp [runningIn, hp], rfl, by show (2 : BitVec 2) ≠ 3; decide, by show (2 : BitVec 2) ≠ 3; decide, ?_⟩
  have h : runningPlan (runningIn e i ph) = planOf i := by simp [runningPlan, runningIn, hd]
  rw [h]; exact hf

theorem calibrate_checks (e : Env) (ph : Phase) : calibrateCheck (runningIn e .calibrate ph) = .none := by
  have h : calibrateCheck { State.reset with nL := 1, fpL := scaleOne } = .none := by decide
  exact h

theorem coherent_opening (e : Env) : Coherent (runningIn e .readOne (.opening .probe)) :=
  coherent_running (by decide) (by decide) ⟨by decide, rfl⟩
theorem coherent_config (e : Env) : Coherent (runningIn e (.init 1) (.config .trial)) :=
  coherent_running (by decide) (by decide) ⟨by decide, rfl⟩
theorem coherent_xfer (e : Env) : Coherent (runningIn e .readAvg (.xfer .sample)) :=
  coherent_running (by decide) (by decide) ⟨by decide, by decide, rfl⟩
theorem coherent_probe (e : Env) : Coherent (runningIn e .isReady (.xfer .probe)) :=
  coherent_running (by decide) (by decide) ⟨by decide, by decide, rfl⟩
theorem coherent_closing (e : Env) : Coherent (runningIn e .calibrate (.closing .sample (.again .probe))) :=
  coherent_running (by decide) (by decide) ⟨by decide, by decide, calibrate_checks e _⟩
theorem coherent_finish (e : Env) : Coherent (runningIn e .calibrate (.finish .none)) :=
  coherent_running (by decide) (by decide) (fun _ => calibrate_checks e _)
theorem coherent_reset (e : Env) : Coherent { State.reset with env := e } :=
  ⟨by simp [State.reset], rfl, by show (2 : BitVec 2) ≠ 3; decide, by show (2 : BitVec 2) ≠ 3; decide, trivial⟩

/-- A starting state for each command that the statements start. -/
theorem starting_running {i : Instr} (hd : decode (encode i) = .command i) (as : List BusAnswer) :
    Starting i (setScript as (running i .check)) := ⟨hd, rfl, rfl, rfl⟩

theorem witness_LegalWordsAreTheList : ¬∃ i, decode 0x0000000D#32 = .command i := by
  have h : decode 0x0000000D#32 = .illegal .reservedOpcode := by decide
  rintro ⟨i, hi⟩; rw [h] at hi; cases hi

theorem witness_IllegalWordsCompleteWithIllegalCmd :
    let s := moves [.write 0x00 4 0x80000007#32, .engine, .engine] State.reset;
    decode 0x80000007#32 = .illegal .reservedBits ∧ s.busy = false ∧
      s.env.sched = [.write 0x00 4 0x80000007#32, .engine, .engine] := by decide

theorem witness_StepRunsDecodedCommand :
    (decode (running .tare .check).cmdL = .command .tare ∧ (running .tare .check).env.sched = []) ∧
    (decode (moves [.engine, .wait []] (running .tare .check)).cmdL = .command .tare ∧
      (moves [.engine, .wait []] (running .tare .check)).env.sched = .engine :: [.wait []]) ∧
    decodeTableWord 32 0x00000302 = some (.setGain 3) := by decide

theorem witness_CommandWriteIsAccepted :
    let s := moves [.write 0x00 4 0xFFFFFFFF#32, .wait []] { State.reset with done := true, ovr := true, err := .notReady };
    s.busy = false ∧ s.env.sched = .write 0x00 4 0xFFFFFFFF#32 :: [.wait []] := by decide

theorem witness_CommandWriteWhileBusyIsRejected :
    let s := moves [.write 0x00 4 0x00000005#32] (running .readOne (.xfer .probe));
    s.busy = true ∧ s.env.sched = .write 0x00 4 0x00000005#32 :: [] := by decide

theorem witness_StatusReadsFieldsAndClearsByOnes :
    (moves [.read 0x04 4] State.reset).env.sched = .read 0x04 4 :: [] ∧
    (moves [.write 0x04 4 0x00000006#32] State.reset).env.sched = .write 0x04 4 0x00000006#32 :: [] := by decide

theorem witness_ReservedOffsetsReadZeroAndIgnoreWrites :
    (0x3C ∈ [0x1C, 0x34, 0x38, 0x3C, 0x00] ∧ (moves [.read 0x3C 4] State.reset).env.sched = .read 0x3C 4 :: []) ∧
    (0x30 ∈ [0x1C, 0x34, 0x38, 0x3C, 0x18, 0x20, 0x24, 0x28, 0x2C, 0x30] ∧
      (moves [.write 0x30 4 5#32] State.reset).env.sched = .write 0x30 4 5#32 :: []) ∧
    (moves [.write 0x04 4 0xFFFFFFF9#32] State.reset).env.sched = .write 0x04 4 0xFFFFFFF9#32 :: [] ∧
    (0x40 ≤ 0x40 ∧ (moves [.read 0x40 4] State.reset).env.sched = .read 0x40 4 :: []) ∧
    (moves [.write 0x40 4 5#32] State.reset).env.sched = .write 0x40 4 5#32 :: [] := by decide

theorem witness_OnlyAlignedWordAccessesAreDefined :
    ((4 = 4 ∧ 0x3C % 4 = 0 ∧ 0x3C ≤ 0x3C) ∧ (moves [.read 0x3C 4] State.reset).env.sched = .read 0x3C 4 :: [] ∧
      (moves [.write 0x3C 4 5#32] State.reset).env.sched = .write 0x3C 4 5#32 :: []) ∧
    (¬(4 = 4 ∧ 0x3D % 4 = 0 ∧ 0x3D ≤ 0x3C) ∧ (moves [.read 0x3D 4] State.reset).env.sched = .read 0x3D 4 :: []) ∧
    (¬(2 = 4 ∧ 0x08 % 4 = 0 ∧ 0x08 ≤ 0x3C) ∧
      (moves [.write 0x08 2 5#32] State.reset).env.sched = .write 0x08 2 5#32 :: []) := by decide

theorem witness_OperandRegistersStoreAndReadBack :
    (∀ off ∈ [0x08, 0x0C, 0x10, 0x14],
      (moves [.write off 4 0x80000000#32] State.reset).env.sched = .write off 4 0x80000000#32 :: []) ∧
    (let s := moves [.read 0x30 4] { State.reset with raw2 := 0x0000FFFF#32 };
      s.env.sched = .read 0x30 4 :: [] ∧ (0x30, 0x0000FFFF#32) ∈ [(0x08, s.argN), (0x0C, s.argInt), (0x10, s.argFpLo),
        (0x14, s.argFpHi), (0x18, s.resInt), (0x20, s.resFpLo), (0x24, s.resFpHi), (0x28, s.raw0), (0x2C, s.raw1),
        (0x30, s.raw2)]) := by decide

theorem witness_WindowIsLittleEndian : (0x3C % 4 = 0 ∧ 0x3C ≤ 0x3C ∧ 3 < 4) ∧ 7 < 8 := by decide

theorem witness_WaitEndsOnlyWhenIdle :
    ((moves [.wait [[.engine]], .reset] State.reset).env.sched = .wait [[.engine]] :: [.reset] ∧
      State.reset.busy = false) ∧
    ((moves [.wait []] (running .nop .check)).env.sched = .wait [] :: [] ∧ (running .nop .check).busy = true) ∧
    ((moves [.wait [[], [.engine, .reset]]] (running .nop .check)).env.sched = .wait ([] :: [[.engine, .reset]]) :: [] ∧
      (running .nop .check).busy = true) ∧
    ((running .readOne (.xfer .probe)).busy = true ∧
      (moves [.wait [[.reset], []], .engine] (running .readOne (.xfer .probe))).env.sched
        = .wait ([.reset] :: [[]]) :: [.engine]) := by decide

theorem witness_ResetAbandonsCommandAndClosesHandle :
    ((moves [.reset] (running .readAvg (.xfer .sample))).env.sched = .reset :: [] ∧
      (running .readAvg (.xfer .sample)).hopen = true) ∧
    ((moves [.reset] State.reset).env.sched = .reset :: [] ∧ State.reset.hopen = false) := by decide

theorem witness_CheckStepDecodesAndChecksArguments :
    (let s := { running .nop .check with cmdL := 0x00000100#32 };
      s.phase = .check ∧ s.env.sched = [] ∧ decode s.cmdL = .illegal .strayGain) ∧
    (let s := { running .calibrate .check with fpL := 0x8000000000000000#64 };
      s.phase = .check ∧ s.env.sched = [] ∧ decode s.cmdL = .command .calibrate ∧ ArgumentError .calibrate s) ∧
    (let s := running .calibrate .check;
      s.phase = .check ∧ s.env.sched = [] ∧ decode s.cmdL = .command .calibrate ∧ ¬ArgumentError .calibrate s) := by
  refine ⟨by decide, ⟨rfl, rfl, by decide, ?_⟩, ⟨rfl, rfl, by decide, ?_⟩⟩ <;> unfold ArgumentError <;> decide

theorem witness_FinishStepCompletes : Coherent (running .calibrate (.finish .none)) ∧
    (running .calibrate (.finish .none)).phase = .finish .none ∧ (running .calibrate (.finish .none)).env.sched = [] :=
  ⟨coherent_finish _, rfl, rfl⟩

theorem witness_ErrorCompletionWritesOnlyItsCode : ErrCode.invalidResponse ≠ .none ∧
    (running .tare (.finish .invalidResponse)).phase = .finish .invalidResponse := by decide

theorem witness_NopAndCloseWriteOnlyStatus :
    ((running .nop .check).phase = .check ∧ (running .close (.finish .none)).phase = .finish .none) ∧
    Starting .nop (setScript [] (running .nop .check)) ∧ Starting .close (setScript [] (running .close .check)) :=
  ⟨by decide, starting_running (by decide) _, starting_running (by decide) _⟩

theorem witness_InitMakesTrialCycleThenUncalibrates :
    (running (.init 0) (.finish .none)).phase = .finish .none ∧
    Starting (.init 3#2) (setScript [] (running (.init 3#2) .check)) ∧ (2#2 : BitVec 2) ≠ 3#2 ∧
    (∀ as ∈ [[.fail], [.ok zeroResponse, .fail], [.ok zeroResponse, .ok zeroResponse]],
      Starting (.init 2#2) (setScript as (running (.init 2#2) .check)) ∧
        (setScript as (running (.init 2#2) .check)).env.script = as) :=
  ⟨rfl, starting_running (by decide) _, by decide, fun _ _ => ⟨starting_running (by decide) _, rfl⟩⟩

theorem witness_SetGainWritesGainOrRefusesCodeThree :
    (running (.setGain 1) (.finish .none)).phase = .finish .none ∧
    Starting (.setGain 2) (setScript [] (running (.setGain 2) .check)) ∧
    Starting (.setGain 3) (setScript [] (running (.setGain 3) .check)) :=
  ⟨rfl, starting_running (by decide) _, starting_running (by decide) _⟩

theorem witness_AccessorsMoveOneRegister :
    (running .setOffset (.finish .none)).phase = .finish .none ∧
    Starting .setOffset (setScript [] (running .setOffset .check)) ∧
    Starting .setScale (setScript [] (running .setScale .check)) ∧
    Starting .getOffset (setScript [] (running .getOffset .check)) :=
  ⟨rfl, starting_running (by decide) _, starting_running (by decide) _, starting_running (by decide) _⟩

theorem witness_BusOpenFollowsItsAnswer : ∀ a ∈ [BusAnswer.pending, .fail, .ok zeroResponse],
    let s := setScript [a] (running .readOne (.opening .probe));
    Coherent s ∧ s.phase = .opening .probe ∧ s.env.sched = [] ∧ s.env.script = a :: [] :=
  fun _ _ => ⟨coherent_opening _, rfl, rfl, rfl⟩

theorem witness_BusConfigureFollowsItsAnswer : ∀ a ∈ [BusAnswer.pending, .fail, .ok zeroResponse],
    let s := setScript [a] (running (.init 1) (.config .trial));
    Coherent s ∧ s.phase = .config .trial ∧ s.env.sched = [] ∧ s.env.script = a :: [] :=
  fun _ _ => ⟨coherent_config _, rfl, rfl, rfl⟩

theorem witness_BusTransferFollowsItsAnswer : ∀ a ∈ [BusAnswer.pending, .fail, .ok badResponse],
    (let s := setScript [a] (running .readAvg (.xfer .sample));
      Coherent s ∧ s.phase = .xfer .sample ∧ s.env.sched = [] ∧ s.env.script = a :: []) ∧
    (let s := setScript [a] (running .isReady (.xfer .probe));
      Coherent s ∧ s.phase = .xfer .probe ∧ s.env.sched = [] ∧ s.env.script = a :: []) :=
  fun _ _ => ⟨⟨coherent_xfer _, rfl, rfl, rfl⟩, ⟨coherent_probe _, rfl, rfl, rfl⟩⟩

theorem witness_BusCloseAlwaysCompletes :
    let s := running .calibrate (.closing .sample (.again .probe));
    Coherent s ∧ s.phase = .closing .sample (.again .probe) ∧ s.env.sched = [] :=
  ⟨coherent_closing _, rfl, rfl⟩

theorem witness_IsReadyReportsProbe :
    (running .isReady (.finish .none)).phase = .finish .none ∧
    (let s := setScript (cycleAnswers zeroResponse) (running .isReady .check);
      Starting .isReady s ∧ s.env.script = cycleAnswers zeroResponse ++ [] ∧ s.params.probeLen = .one ∧
        ∀ k (h : k < 10), k < 1 → zeroResponse[k] = 0#8) ∧
    (let r : Response := #v[0, 0, 0, 0, 0, 0, 0, 0, 0, 0x01];
      let s := withParams { defaultParams with probeLen := .ten } (setScript (cycleAnswers r) (running .isReady .check));
      Starting .isReady s ∧ s.env.script = cycleAnswers r ++ [] ∧ s.params.probeLen = .ten ∧
        ∃ k, ∃ h : k < 10, k < 10 ∧ r[k] ≠ 0#8) :=
  ⟨rfl, ⟨starting_running (by decide) _, rfl, rfl, by decide⟩, ⟨by decide, rfl, rfl, rfl⟩, rfl, rfl, 9, by decide⟩

theorem witness_PollDecisionFollowsLimit :
    (let s := setScript [.ok zeroResponse] (running .tare (.xfer .probe));
      isAveraging .tare = true ∧ s.phase = .xfer .probe ∧ s.hopen = true ∧ s.env.script = .ok zeroResponse :: [] ∧
        ∀ b ∈ zeroResponse.toList.take (probeLen s), b = 0#8) ∧
    (let s := withParams { defaultParams with pollLimit := some 3 }
        (setScript [.ok busyResponse] { running .readOne (.xfer .probe) with polls := 2 });
      s.phase = .xfer .probe ∧ s.hopen = true ∧ s.env.script = .ok busyResponse :: [] ∧
        (¬∀ b ∈ busyResponse.toList.take (probeLen s), b = 0#8) ∧ s.params.pollLimit = some 3 ∧ 3 ≤ s.polls + 1) ∧
    (let s := withParams { defaultParams with pollLimit := some 3 }
        (setScript [.ok busyResponse] { running .readOne (.xfer .probe) with polls := 1 });
      s.phase = .xfer .probe ∧ s.hopen = true ∧ s.env.script = .ok busyResponse :: [] ∧
        (¬∀ b ∈ busyResponse.toList.take (probeLen s), b = 0#8) ∧ s.params.pollLimit = some 3 ∧ s.polls + 1 < 3) := by
  decide

theorem witness_PollLoopRunsUntilReadyOrLimit : ∀ l ∈ [none, some 2],
    let s := withParams { defaultParams with pollLimit := l }
      (setScript (cyclesAnswers [busyResponse, busyResponse]) (running .readAvg (.opening .probe)));
    decode s.cmdL = .command .readAvg ∧ s.phase = .opening .probe ∧ s.hopen = false ∧ s.env.sched = [] ∧
      (∀ r ∈ [busyResponse, busyResponse], probeReady r s = false) ∧
      s.env.script = cyclesAnswers [busyResponse, busyResponse] ++ [] ∧ s.polls = 0 := by
  intro l _
  refine ⟨by decide +revert, rfl, rfl, rfl, ?_, rfl, rfl⟩
  simp; rfl

theorem witness_SampleTransferCapturesThenValidates :
    (let s := setScript [.ok badResponse] (running .readOne (.xfer .sample));
      s.phase = .xfer .sample ∧ s.hopen = true ∧ s.env.script = .ok badResponse :: []) ∧ badResponse[7] ≠ 0#8 := by
  decide

theorem witness_DecodeRecoversEncodedSample : (0x55#8 : Byte) &&& 0xAA#8 = 0#8 ∧
    (#v[encodeByte 0x800000#24 0 0x55, encodeByte 0x800000#24 1 0x55, encodeByte 0x800000#24 2 0x55,
      encodeByte 0x800000#24 3 0x55, encodeByte 0x800000#24 4 0x55, encodeByte 0x800000#24 5 0x55, 0#8, 0#8, 0#8, 0#8]
        : Response)[0] = 0xFD#8 := by decide

theorem witness_NonDataBitsNeverChangeSample : ∀ k (h : k < 6),
    sample7[k] &&& 0xAA#8
      = (#v[0xFF, 0xFF, 0xFF, 0xFF, 0xFF, 0x57, 0x01, 0x02, 0x03, 0x04] : Response)[k] &&& 0xAA#8 := by decide

theorem witness_ReadOneRunReturnsSample :
    (running .readOne (.finish .none)).phase = .finish .none ∧
    (let s := withParams { defaultParams with pollLimit := some 2 }
        (setScript (cyclesAnswers [busyResponse] ++ cycleAnswers zeroResponse ++ cycleAnswers sample1000 ++ [])
          (running .readOne .check));
      Starting .readOne s ∧ (∀ b ∈ [busyResponse], probeReady b s = false) ∧ probeReady zeroResponse s = true ∧
        validResponse sample1000 = true ∧ s.params.pollLimit = some 2 ∧ [busyResponse].length < 2 ∧
        s.env.script = cyclesAnswers [busyResponse] ++ cycleAnswers zeroResponse ++ cycleAnswers sample1000 ++ []) :=
  ⟨rfl, ⟨by decide, rfl, rfl, rfl⟩, by simp; decide, by decide, by decide, rfl, by decide, rfl⟩

theorem witness_AveragesFinish :
    (running .readAvg (.finish .none)).phase = .finish .none ∧ (running .tare (.finish .none)).phase = .finish .none ∧
    (running .getUnits (.finish .none)).phase = .finish .none := by decide

theorem witness_GetUnitsWritesQuotient :
    (∃ q, f64Div (f64OfInt (250#32 : Word).toInt) 0x407F400000000000#64 = some q) ∧
    f64Div (f64OfInt (0#32 : Word).toInt) 0#64 = none :=
  ⟨⟨0x3FE0000000000000#64, by decide +kernel⟩, by decide +kernel⟩

theorem witness_CalibrateWritesScale :
    Coherent (running .calibrate (.finish .none)) ∧ (running .calibrate (.finish .none)).phase = .finish .none ∧
    decode (running .calibrate (.finish .none)).cmdL = .command .calibrate ∧
    f64Div (f64OfInt (1000#32 : Word).toInt) 0x4000000000000000#64 = some 0x407F400000000000#64 :=
  ⟨coherent_finish _, rfl, by decide, by decide +kernel⟩

theorem witness_AverageRunReachesFinish :
    let s := setScript ([sample7, sample1000].flatMap sampleAnswers) { running .getUnits .check with nL := 2 };
    isAveraging .getUnits = true ∧ Starting .getUnits s ∧ ¬ArgumentError .getUnits s ∧
      [sample7, sample1000].getLast? = some sample1000 ∧ s.nL.toInt = [sample7, sample1000].length ∧
      (∀ q ∈ [sample7, sample1000], validResponse q = true) ∧
      s.env.script = [sample7, sample1000].flatMap sampleAnswers ++ [] :=
  ⟨rfl, ⟨by decide, rfl, rfl, rfl⟩, by unfold ArgumentError; decide, by decide, by decide, by simp; decide, rfl⟩

theorem witness_InvalidSampleAbortsAverage :
    let s := setScript ([sample7].flatMap sampleAnswers ++ sampleAnswers badResponse) { running .tare .check with nL := 3 };
    isAveraging .tare = true ∧ Starting .tare s ∧ ¬ArgumentError .tare s ∧ (([sample7].length : Nat) : Int) < s.nL.toInt ∧
      (∀ r ∈ [sample7], validResponse r = true) ∧ validResponse badResponse = false ∧
      s.env.script = [sample7].flatMap sampleAnswers ++ sampleAnswers badResponse ++ [] :=
  ⟨rfl, ⟨by decide, rfl, rfl, rfl⟩, by unfold ArgumentError; decide, by decide, by simp; decide, by decide, rfl⟩

theorem witness_TareThenReadAvgIsZero :
    let s := moves (expandProgram [.execCmd .tare, .execCmd .readAvg])
      (setScript ([sample7].flatMap sampleAnswers ++ [sample7].flatMap sampleAnswers) { State.reset with argN := 1 });
    s.busy = false ∧ s.phase = .idle ∧ s.hopen = false ∧ [sample7] ≠ [] ∧ s.argN.toInt = [sample7].length ∧
      (∀ r ∈ [sample7], validResponse r = true) ∧
      s.env.sched = expandProgram [.execCmd .tare, .execCmd .readAvg] ∧
      s.env.script = [sample7].flatMap sampleAnswers ++ [sample7].flatMap sampleAnswers ++ [] :=
  ⟨rfl, rfl, rfl, by decide, by decide, by simp; decide, rfl, rfl⟩

/-- Averaging states within the bounds: at a sample's transfer and at FINISH. -/
theorem witness_AverageStaysInSampleRange :
    (Coherent (running .readAvg (.xfer .sample)) ∧ AverageFits (running .readAvg (.xfer .sample)) ∧
      decode (running .readAvg (.xfer .sample)).cmdL = .command .readAvg) ∧
    (let s := { running .calibrate (.finish .none) with k := 1, acc := 0xFFFFFFFFFF800000#64 };
      Coherent s ∧ AverageFits s ∧ decode s.cmdL = .command .calibrate) := by
  have h := coherent_finish emptyEnv
  refine ⟨⟨coherent_xfer _, ?_, by decide⟩, ⟨h.busy_iff, h.hopen_eq, h.gain_ne, h.resetGain_ne, h.fits⟩, ?_, by decide⟩
  · intro i _ _; exact ⟨⟨by decide, by decide⟩, by decide⟩
  · intro i _ _ _; exact ⟨⟨by decide, by decide⟩, by decide⟩

theorem witness_QuotTruncatesAndOffsetWraps : (1 : Int) ≤ 1 ∧
    (let s := { State.reset with offset := 0x80000000#32 };
      s.offset = 0x80000000#32 ∧ -8388608 ≤ (8388607#32 : Word).toInt ∧ (8388607#32 : Word).toInt ≤ 8388607 ∧
        (minusOffset 8388607#32 s).toInt ≠ (8388607#32 : Word).toInt - s.offset.toInt) := by decide

theorem witness_DivisionSpecialCases :
    (f64IsFinite 1#64 = true ∧ f64IsZero 1#64 = false ∧ f64IsZero 0x8000000000000000#64 = true) ∧
    (f64IsFinite 0#64 = true ∧ f64IsInf 0xFFF0000000000000#64 = true) ∧
    (f64IsInf 0x7FF0000000000000#64 = true ∧ f64IsFinite 0#64 = true) := by decide

theorem witness_DivisionRoundsToNearestEven : f64IsFinite 0x7FEFFFFFFFFFFFFF#64 = true ∧ f64IsFinite 1#64 = true ∧
    f64IsZero 1#64 = false := by decide

/-- One step that changes each register the statement speaks of. -/
theorem witness_OnlyNamedCommandsWriteState :
    seen (exec (.init 0) { running (.init 0) (.finish .none) with offset := 5, scale := 0 })
      (fun t => decide (t.gain ≠ 2#2 ∧ t.offset ≠ 5#32 ∧ t.scale ≠ 0#64)) = some true ∧
    seen (exec .getOffset { running .getOffset (.finish .none) with offset := 5 }) (fun t => decide (t.resInt ≠ 0#32))
      = some true ∧
    seen (exec .getUnits { running .getUnits (.finish .none) with acc := 1 }) (fun t => decide (t.resFpHi ≠ 0#32))
      = some true ∧
    seen (exec .readOne (setScript [.ok sample7] (running .readOne (.xfer .sample)))) (fun t => decide (t.raw0 ≠ 0#32))
      = some true := by decide +kernel

theorem witness_EngineStepsKeepHostRegisters :
    ∃ t, exec .readOne (setScript [.ok sample7] (running .readOne (.xfer .sample))) = .next t ∧
      ∀ code, (running .readOne (.xfer .sample)).phase ≠ .finish code :=
  ⟨_, rfl, fun _ => by simp [running, runningIn]⟩

theorem witness_RunningCommandIgnoresHostRegisters :
    ∃ t, exec .setOffset { running .setOffset (.finish .none) with intL := 7, argInt := 9 } = .next t := ⟨_, rfl⟩

theorem witness_CommandEndsOnlyByFinishOrReset :
    (Coherent (running .calibrate (.finish .invalidArgument)) ∧
      seen (step (running .calibrate (.finish .invalidArgument))) (fun t => t.busy) = some false) ∧
    (Coherent (moves [.reset] (running .readOne (.opening .probe))) ∧
      seen (step (moves [.reset] (running .readOne (.opening .probe)))) (fun t => t.busy) = some false) ∧
    (Coherent (moves [.write 0x00 4 1#32] State.reset) ∧
      seen (step (moves [.write 0x00 4 1#32] State.reset)) (fun t => t.busy) = some true) :=
  ⟨⟨coherent_running (by decide) (by decide) (fun h => by cases h), by decide⟩,
    ⟨coherent_opening _, by decide⟩, ⟨coherent_reset _, by decide⟩⟩

theorem witness_OvrIsSticky :
    seen (step (moves [.write 0x00 4 1#32] (running .readOne (.opening .probe)))) (fun t => t.ovr) = some true ∧
    seen (step (moves [.write 0x04 4 4#32] { State.reset with ovr := true })) (fun t => t.ovr) = some false ∧
    seen (step (moves [.reset] { State.reset with ovr := true })) (fun t => t.ovr) = some false := by decide

theorem witness_RunningCommandKeepsItsLatches :
    (running .tare .check).busy = true ∧ ∃ t, step (moves [.write 0x08 4 9#32] (running .tare .check)) = .next t :=
  ⟨rfl, _, rfl⟩

theorem witness_StepKeepsCoherence :
    Coherent (running .readAvg (.xfer .sample)) ∧
      ∃ t, step (setScript [.ok sample7] (running .readAvg (.xfer .sample))) = .next t := ⟨coherent_xfer _, _, rfl⟩

theorem witness_StepKeepsBusTraceLegal :
    let s := runningIn { emptyEnv with
      script := [.ok sample7]
      busLog := [.configured Config.busFreqHz Config.busMode 8 true, .opened Config.busId true] }
        .readAvg (.xfer .sample);
    Coherent s ∧ TraceFits s ∧ ∃ t, step s = .next t := by
  refine ⟨coherent_xfer _, ⟨⟨.ready, rfl, rfl⟩, ?_⟩, _, rfl⟩
  intro e he
  rcases List.mem_cons.mp he with rfl | he
  · exact ⟨rfl, rfl, rfl⟩
  · rcases List.mem_cons.mp he with rfl | he
    · exact rfl
    · cases he

theorem witness_StepKeepsErrorCodesInTable :
    let s := running .calibrate (.finish .none);
    Coherent s ∧ CodesFit s ∧ ∃ t, step s = .next t := by
  refine ⟨coherent_finish _, ?_, _, rfl⟩
  rintro code hc
  cases hc
  refine ⟨?_, by simp⟩
  have h : decode (running .calibrate (.finish .none)).cmdL = .command .calibrate := by decide
  rw [h]; decide

theorem witness_StepKeepsAccumulatorBounds :
    let s := setScript [.ok sample7] (running .readAvg (.xfer .sample));
    Coherent s ∧ AverageFits s ∧ ∃ t, step s = .next t := by
  refine ⟨coherent_xfer _, ?_, _, rfl⟩
  intro i _ _; exact ⟨⟨by decide, by decide⟩, by decide⟩

theorem witness_CoherentStatesNeverFault :
    Coherent (moves [.read 0x06 4] State.reset) ∧ Coherent (running (.init 1) (.config .trial)) :=
  ⟨coherent_reset _, coherent_config _⟩

end Sys2Proof.Tests
end

section
/-! PROOFS. The statements of the scope rules: the gain clock sequences (R126), and binary64 conversion and division
(R8, R191). A rounded value is its last place `2 ^ e` and a significand `nearestEven n (d * 2 ^ e)`; nearness and the
tie rule are proved for `nearestEven` alone, and carried over to encodings by `f64Mag_pack_carry`. -/

namespace Sys2Proof.Machine

/-! ## The gain clock sequences -/

theorem gainSeq_length (g : BitVec 2) : (gainSeq g).length = 7 := by simp [gainSeq]

theorem gainSeq_getElem?_common (g : BitVec 2) {n : Nat} (hn : n < 6) :
    (gainSeq g)[n]? = Config.gainCommon.toList[n]? :=
  List.getElem?_append_left (by simpa using hn)

theorem gainSeq_getElem?_last (g : BitVec 2) : (gainSeq g)[6]? = some (Config.gainLast (g.setWidth 8)) := by
  simp [gainSeq]

/-! ## The fields of a packed encoding -/

section Pack
variable {m : Nat} (neg : Bool)

theorem f64Pack_toNat (hm : m < 2 ^ 63) : (f64Pack neg m).toNat = neg.toNat * 2 ^ 63 + m := by
  rw [f64Pack, BitVec.toNat_append, ← Nat.shiftLeft_add_eq_or_of_lt (BitVec.isLt _),
    BitVec.toNat_ofBool, BitVec.toNat_ofNat, Nat.mod_eq_of_lt hm, Nat.shiftLeft_eq]

@[simp] theorem f64Neg_pack : f64Neg (f64Pack neg m) = neg := by
  rw [f64Neg, f64Pack, BitVec.getLsbD_append]
  simp

theorem f64Exp_pack (hm : m < 2 ^ 63) : f64Exp (f64Pack neg m) = m / 2 ^ 52 := by
  rw [f64Exp, BitVec.extractLsb'_toNat, f64Pack_toNat neg hm, Nat.shiftRight_eq_div_pow]
  omega

theorem f64Frac_pack (hm : m < 2 ^ 63) : f64Frac (f64Pack neg m) = m % 2 ^ 52 := by
  rw [f64Frac, BitVec.extractLsb'_toNat, f64Pack_toNat neg hm, Nat.shiftRight_zero]
  omega

theorem f64Pack_getLsbD_zero (hm : m < 2 ^ 63) : (f64Pack neg m).getLsbD 0 = decide (m % 2 = 1) := by
  rw [BitVec.getLsbD, f64Pack_toNat neg hm, Nat.testBit_zero]
  congr 2
  omega

/-- Up to the encoding of an infinity, a packed value is an infinity exactly there. -/
theorem f64IsInf_pack (hm : m ≤ 2047 * 2 ^ 52) : f64IsInf (f64Pack neg m) = true ↔ 2047 * 2 ^ 52 ≤ m := by
  have hlt : m < 2 ^ 63 := by omega
  simp only [f64IsInf, f64Exp_pack neg hlt, f64Frac_pack neg hlt, Bool.and_eq_true, beq_iff_eq]
  omega

theorem f64IsFinite_pack (hm : m < 2047 * 2 ^ 52) : f64IsFinite (f64Pack neg m) = true := by
  have hlt : m < 2 ^ 63 := by omega
  simp only [f64IsFinite, f64Exp_pack neg hlt, bne_iff_ne]
  omega

/-- A significand added to the exponent of its last place is the encoding of its value, the carry out of the
significand `2 ^ 53` included. -/
theorem f64Mag_pack_carry {e s : Nat} (hm : e * 2 ^ 52 + s < 2 ^ 63) (hs : s ≤ 2 ^ 53) (he : e ≠ 0 → 2 ^ 52 ≤ s) :
    f64Mag (f64Pack neg (e * 2 ^ 52 + s)) = s * 2 ^ e := by
  rw [f64Mag, f64Exp_pack neg hm, f64Frac_pack neg hm]
  rcases Nat.lt_or_ge s (2 ^ 52) with hsub | hnorm
  · obtain rfl : e = 0 := by omega
    rw [Nat.zero_mul, Nat.zero_add, Nat.div_eq_of_lt hsub, if_pos rfl, Nat.mod_eq_of_lt hsub, pow_zero, Nat.mul_one]
  · rcases Nat.lt_or_eq_of_le hs with hlt | rfl
    · have hexp : (e * 2 ^ 52 + s) / 2 ^ 52 = e + 1 := by omega
      have hfrac : 2 ^ 52 + (e * 2 ^ 52 + s) % 2 ^ 52 = s := by omega
      rw [hexp, if_neg (by omega), hfrac, Nat.add_sub_cancel]
    · have hexp : (e * 2 ^ 52 + 2 ^ 53) / 2 ^ 52 = e + 2 := by omega
      have hfrac : (e * 2 ^ 52 + 2 ^ 53) % 2 ^ 52 = 0 := by omega
      rw [hexp, if_neg (by omega), hfrac, show e + 2 - 1 = e + 1 by omega, pow_succ 2 e]
      ring

end Pack

/-! ## Finite values -/

theorem f64IsNan_of_finite {x : DWord} (hx : f64IsFinite x = true) : f64IsNan x = false := by
  simp_all [f64IsFinite, f64IsNan]

theorem f64IsInf_of_finite {x : DWord} (hx : f64IsFinite x = true) : f64IsInf x = false := by
  simp_all [f64IsFinite, f64IsInf]

theorem f64Mag_pos {x : DWord} (hx : f64IsZero x = false) : 0 < f64Mag x := by
  unfold f64Mag
  split
  · simp_all [f64IsZero, Nat.pos_iff_ne_zero]
  · positivity

theorem f64Div_of_finite {a b : DWord} (ha : f64IsFinite a = true) (hb : f64IsFinite b = true)
    (hz : f64IsZero b = false) :
    f64Div a b = some (f64Pack (f64Neg a != f64Neg b) (f64Round (f64Mag a * f64Unit) (f64Mag b))) := by
  simp [f64Div, f64IsNan_of_finite, f64IsInf_of_finite, ha, hb, hz]

/-- Every magnitude has at most 53 significant bits. -/
theorem f64Mag_eq_significand_mul (x : DWord) : ∃ s e, s < 2 ^ 53 ∧ f64Mag x = s * 2 ^ e := by
  have hfrac : f64Frac x < 2 ^ 52 := BitVec.isLt _
  unfold f64Mag
  split
  · exact ⟨f64Frac x, 0, by omega, by simp⟩
  · exact ⟨_, _, by omega, rfl⟩

/-- Against a last place `2 ^ e`, every magnitude is a multiple of it or lies below the significands of that place. -/
theorem f64Mag_multiple_or_lt (x : DWord) (e : Nat) :
    (∃ k, f64Mag x = k * 2 ^ e) ∨ (e ≠ 0 ∧ f64Mag x < 2 ^ 52 * 2 ^ e) := by
  obtain ⟨s, e', hs, hmag⟩ := f64Mag_eq_significand_mul x
  rcases Nat.lt_or_ge e' e with hlt | hge
  · refine .inr ⟨by omega, ?_⟩
    calc f64Mag x = s * 2 ^ e' := hmag
      _ < 2 ^ 53 * 2 ^ e' := Nat.mul_lt_mul_of_pos_right hs (by positivity)
      _ = 2 ^ 52 * 2 ^ (e' + 1) := by ring
      _ ≤ 2 ^ 52 * 2 ^ e := Nat.mul_le_mul_left _ (Nat.pow_le_pow_right (by decide) hlt)
  · refine .inl ⟨s * 2 ^ (e' - e), ?_⟩
    rw [hmag, mul_assoc, ← pow_add, Nat.sub_add_cancel hge]

/-! ## The nearest natural, ties to even -/

theorem mul_add_le_mul_of_lt {k r : Nat} (d : Nat) (h : k < r) : k * d + d ≤ r * d :=
  (Nat.succ_mul k d).symm.trans_le (Nat.mul_le_mul_right d h)

section NearestEven
variable {n d : Nat} (hd : 0 < d)
include hd

/-- The result is within half a divisor of the dividend, and even where it is exactly half a divisor away. -/
theorem nearestEven_within_half :
    2 * (nearestEven n d * d) ≤ 2 * n + d ∧ 2 * n ≤ 2 * (nearestEven n d * d) + d ∧
      (2 * (nearestEven n d * d) = 2 * n + d ∨ 2 * n = 2 * (nearestEven n d * d) + d → nearestEven n d % 2 = 0) := by
  have hrem : n % d < d := Nat.mod_lt n hd
  have hdiv : n / d * d + n % d = n := by rw [mul_comm, Nat.div_add_mod]
  unfold nearestEven
  split
  · rw [Nat.add_mul, Nat.one_mul]
    omega
  · omega

/-- No multiple of the divisor is nearer to the dividend, and another as near means that the result is even. -/
theorem nearestEven_nearest (k : Nat) :
    ((nearestEven n d * d : Nat) - (n : Nat) : Int).natAbs ≤ ((k * d : Nat) - (n : Nat) : Int).natAbs ∧
    (((nearestEven n d * d : Nat) - (n : Nat) : Int).natAbs = ((k * d : Nat) - (n : Nat) : Int).natAbs →
      k = nearestEven n d ∨ nearestEven n d % 2 = 0) := by
  have hhalf := nearestEven_within_half (n := n) hd
  generalize nearestEven n d = r at hhalf ⊢
  rcases Nat.lt_trichotomy k r with hlt | rfl | hgt
  · have hstep := mul_add_le_mul_of_lt d hlt
    omega
  · exact ⟨le_rfl, fun _ => .inl rfl⟩
  · have hstep := mul_add_le_mul_of_lt d hgt
    omega

/-- Above an odd `k`, the result changes at the half step, the tie included. -/
theorem succ_le_nearestEven_iff {k : Nat} (hk : k % 2 = 1) :
    k + 1 ≤ nearestEven n d ↔ (2 * k + 1) * d ≤ 2 * n := by
  obtain ⟨hupper, hlower, heven⟩ := nearestEven_within_half (n := n) hd
  generalize nearestEven n d = r at hupper hlower heven ⊢
  have hhalf : (2 * k + 1) * d = 2 * (k * d) + d := by ring
  rw [hhalf]
  constructor <;> intro h
  · have hstep := mul_add_le_mul_of_lt d h
    omega
  · by_contra hlt
    have hle : r * d ≤ k * d := Nat.mul_le_mul_right d (by omega)
    have hrk : r = k := Nat.eq_of_mul_eq_mul_right hd (by omega)
    subst hrk
    omega

theorem nearestEven_le {k : Nat} (h : n ≤ k * d) : nearestEven n d ≤ k := by
  by_contra hlt
  obtain ⟨hupper, -, -⟩ := nearestEven_within_half (n := n) hd
  have hstep := mul_add_le_mul_of_lt d (not_le.mp hlt)
  omega

theorem le_nearestEven {k : Nat} (h : k * d ≤ n) : k ≤ nearestEven n d := by
  by_contra hlt
  obtain ⟨-, hlower, -⟩ := nearestEven_within_half (n := n) hd
  have hstep := mul_add_le_mul_of_lt d (not_le.mp hlt)
  omega

theorem nearestEven_mul_of_dvd (h : d ∣ n) : nearestEven n d * d = n := by
  obtain ⟨k, rfl⟩ := h
  rw [mul_comm d k, le_antisymm (nearestEven_le hd le_rfl) (le_nearestEven hd le_rfl)]

end NearestEven

/-! ## The last place and the significand of a rounded quotient -/

/-- The exponent of the last place to which `n / d` is rounded. -/
def lastPlace (n d : Nat) : Nat := Nat.log2 (n / d) - 52

/-- The quotient in units of its last place, rounded. -/
def significand (n d : Nat) : Nat := nearestEven n (d * 2 ^ lastPlace n d)

theorem f64Round_eq (n d : Nat) :
    f64Round n d = min (lastPlace n d * 2 ^ 52 + significand n d) (2047 * 2 ^ 52) := rfl

section Significand
variable {n d : Nat} (hd : 0 < d)
include hd

theorem lastPlace_scale_pos : 0 < d * 2 ^ lastPlace n d := by positivity

theorem lt_lastPlace_scale : n < 2 ^ 53 * (d * 2 ^ lastPlace n d) := by
  have hlog : n / d < 2 ^ (53 + lastPlace n d) :=
    Nat.lt_log2_self.trans_le (Nat.pow_le_pow_right (by decide) (by unfold lastPlace; omega))
  calc n < 2 ^ (53 + lastPlace n d) * d := (Nat.div_lt_iff_lt_mul hd).mp hlog
    _ = 2 ^ 53 * (d * 2 ^ lastPlace n d) := by ring

theorem lastPlace_scale_le (he : lastPlace n d ≠ 0) : 2 ^ 52 * (d * 2 ^ lastPlace n d) ≤ n := by
  have hexp : 52 + lastPlace n d = (n / d).log2 := by unfold lastPlace at *; omega
  have hne : n / d ≠ 0 := by
    intro h0
    rw [h0, Nat.log2_zero] at hexp
    omega
  calc 2 ^ 52 * (d * 2 ^ lastPlace n d) = 2 ^ (52 + lastPlace n d) * d := by ring
    _ ≤ n := (Nat.le_div_iff_mul_le hd).mp (hexp ▸ Nat.log2_self_le hne)

theorem significand_le : significand n d ≤ 2 ^ 53 :=
  nearestEven_le (lastPlace_scale_pos hd) (lt_lastPlace_scale hd).le

theorem le_significand (he : lastPlace n d ≠ 0) : 2 ^ 52 ≤ significand n d :=
  le_nearestEven (lastPlace_scale_pos hd) (lastPlace_scale_le hd he)

/-- The rounded quotient reaches the encoding of `2 ^ (p + 54)` units exactly from the half step below it on: the last
place there is `2 ^ (p + 1)`, and the tie rounds up to it because `2 ^ 53 - 1` is odd. -/
theorem reaches_exponent_iff (p : Nat) :
    (p + 3) * 2 ^ 52 ≤ lastPlace n d * 2 ^ 52 + significand n d ↔ (2 ^ 54 - 1) * 2 ^ p * d ≤ n := by
  have hle := significand_le (n := n) hd
  have hnorm := le_significand (n := n) hd
  have hhalf : 2 ^ 53 ≤ significand n d ↔ _ :=
    succ_le_nearestEven_iff (lastPlace_scale_pos (n := n) hd) (k := 2 ^ 53 - 1) (by decide)
  have hlt := lt_lastPlace_scale (n := n) hd
  have hge := lastPlace_scale_le (n := n) hd
  have hpos : 0 < d * 2 ^ p := by positivity
  have hmono {i j : Nat} (h : i ≤ j) : d * 2 ^ i ≤ d * 2 ^ j :=
    Nat.mul_le_mul_left d (Nat.pow_le_pow_right (by decide) h)
  rw [mul_assoc, mul_comm _ d]
  rcases Nat.lt_trichotomy (lastPlace n d) (p + 1) with hsmall | heq | hlarge
  · have hplace : d * 2 ^ lastPlace n d ≤ d * 2 ^ p := hmono (Nat.le_of_lt_succ hsmall)
    omega
  · have hplace : d * 2 ^ lastPlace n d = 2 * (d * 2 ^ p) := by rw [heq]; ring
    omega
  · have hplace : 4 * (d * 2 ^ p) ≤ d * 2 ^ lastPlace n d :=
      calc 4 * (d * 2 ^ p) = d * 2 ^ (p + 2) := by ring
        _ ≤ d * 2 ^ lastPlace n d := hmono hlarge
    omega

/-- The rounded quotient overflows exactly from the half step above the largest finite value on. -/
theorem overflow_iff :
    2047 * 2 ^ 52 ≤ lastPlace n d * 2 ^ 52 + significand n d ↔ (2 ^ 54 - 1) * 2 ^ 2044 * d ≤ n :=
  reaches_exponent_iff hd 2044

/-- No binary64 magnitude is nearer to the quotient than the rounded one, and a tie means an even significand. -/
theorem significand_nearest (y : DWord) :
    ((significand n d * 2 ^ lastPlace n d * d : Nat) - (n : Nat) : Int).natAbs
      ≤ ((f64Mag y * d : Nat) - (n : Nat) : Int).natAbs ∧
    (((significand n d * 2 ^ lastPlace n d * d : Nat) - (n : Nat) : Int).natAbs
        = ((f64Mag y * d : Nat) - (n : Nat) : Int).natAbs →
      f64Mag y = significand n d * 2 ^ lastPlace n d ∨ significand n d % 2 = 0) := by
  have hnear := nearestEven_nearest (n := n) (lastPlace_scale_pos (n := n) hd)
  have hscale (k : Nat) : k * 2 ^ lastPlace n d * d = k * (d * 2 ^ lastPlace n d) := by ring
  rw [hscale]
  rcases f64Mag_multiple_or_lt y (lastPlace n d) with ⟨k, hk⟩ | ⟨he, hlt⟩
  · obtain ⟨hle, htie⟩ := hnear k
    rw [hk, hscale]
    exact ⟨hle, fun heq => (htie heq).imp_left (congrArg (· * 2 ^ lastPlace n d))⟩
  · have hcloser : f64Mag y * d < 2 ^ 52 * (d * 2 ^ lastPlace n d) :=
      (Nat.mul_lt_mul_of_pos_right hlt hd).trans_eq (hscale _)
    obtain ⟨hbound, -⟩ := hnear (2 ^ 52)
    have hle := lastPlace_scale_le hd he
    rw [significand]
    omega

end Significand

/-! ## The rounded encoding -/

section Encoding
variable {n d : Nat} (neg : Bool)

theorem f64IsInf_pack_round :
    f64IsInf (f64Pack neg (f64Round n d)) = true ↔ 2047 * 2 ^ 52 ≤ lastPlace n d * 2 ^ 52 + significand n d := by
  rw [f64Round_eq, f64IsInf_pack neg (min_le_right _ _), le_min_iff, and_iff_left le_rfl]

variable (hfin : lastPlace n d * 2 ^ 52 + significand n d < 2047 * 2 ^ 52)
include hfin

theorem f64Round_of_lt : f64Round n d = lastPlace n d * 2 ^ 52 + significand n d := min_eq_left hfin.le

theorem f64IsFinite_pack_round : f64IsFinite (f64Pack neg (f64Round n d)) = true :=
  f64IsFinite_pack neg ((f64Round_of_lt hfin).trans_lt hfin)

theorem f64Pack_round_even : (f64Pack neg (f64Round n d)).getLsbD 0 = false ↔ significand n d % 2 = 0 := by
  rw [f64Round_of_lt hfin, f64Pack_getLsbD_zero neg (by omega), decide_eq_false_iff_not]
  omega

theorem f64Mag_pack_round (hd : 0 < d) :
    f64Mag (f64Pack neg (f64Round n d)) = significand n d * 2 ^ lastPlace n d := by
  rw [f64Round_of_lt hfin]
  exact f64Mag_pack_carry neg (by omega) (significand_le hd) (le_significand hd)

end Encoding

/-! ## Integers, in units of 2^-1074 -/

section Integer
variable {k : Nat} (hk : k < 2 ^ 32)
include hk

theorem lastPlace_integer_le : lastPlace (k * f64Unit) 1 ≤ 1074 := by
  have hlt : k * f64Unit < 2 ^ (32 + 1074) := by
    rw [f64Unit, pow_add]
    exact Nat.mul_lt_mul_of_pos_right hk (by positivity)
  rw [lastPlace, Nat.div_one]
  rcases eq_or_ne (k * f64Unit) 0 with h0 | h0
  · rw [h0, Nat.log2_zero]
    omega
  · have := (Nat.log2_lt h0).mpr hlt
    omega

theorem integer_not_overflow :
    lastPlace (k * f64Unit) 1 * 2 ^ 52 + significand (k * f64Unit) 1 < 2047 * 2 ^ 52 := by
  have hplace := lastPlace_integer_le hk
  have hsig := significand_le (n := k * f64Unit) Nat.one_pos
  omega

/-- The last place of an integer divides it, so that rounding leaves it as it is. -/
theorem significand_integer_exact :
    significand (k * f64Unit) 1 * 2 ^ lastPlace (k * f64Unit) 1 = k * f64Unit := by
  have hdvd : 2 ^ lastPlace (k * f64Unit) 1 ∣ k * f64Unit :=
    Dvd.dvd.mul_left (pow_dvd_pow 2 (lastPlace_integer_le hk)) k
  rw [significand, Nat.one_mul]
  exact nearestEven_mul_of_dvd (Nat.two_pow_pos _) hdvd

end Integer

/-! ## The statements -/

/-- Settles O27: the first six bytes are one constant, and the last byte is a permutation's value at the gain. -/
theorem gainSequencesMeetTheirConstraints : Obligations.GainSequencesMeetTheirConstraints := by
  unfold Obligations.GainSequencesMeetTheirConstraints
  refine ⟨gainSeq_length, fun g h n hn => ?_, ?_, ?_, ?_⟩
  · rw [gainSeq_getElem?_common g hn, gainSeq_getElem?_common h hn]
  all_goals simp [gainSeq_getElem?_last]

/-- Settles O45: an `s32` does not overflow, and its last place divides it. -/
theorem integerConversionIsExact : Obligations.IntegerConversionIsExact := by
  unfold Obligations.IntegerConversionIsExact
  refine ⟨fun w => ?_, ?_⟩
  · have hk : w.toInt.natAbs < 2 ^ 32 := by
      have := w.isLt
      unfold BitVec.toInt
      split <;> omega
    have hfin := integer_not_overflow hk
    exact ⟨f64IsFinite_pack_round _ hfin, f64Neg_pack _,
      (f64Mag_pack_round _ hfin Nat.one_pos).trans (significand_integer_exact hk)⟩
  · rw [f64OfInt, Int.natAbs_zero, Nat.zero_mul]
    decide

/-- Settles O47, from the nearness of the significand and the threshold of the overflow. -/
theorem divisionRoundsToNearestEven : Obligations.DivisionRoundsToNearestEven := by
  unfold Obligations.DivisionRoundsToNearestEven
  intro a b ha hb hz
  have hd := f64Mag_pos hz
  refine ⟨_, f64Div_of_finite ha hb hz, f64Neg_pack _, ?_, fun hinf => ?_⟩
  · rw [f64IsInf_pack_round, overflow_iff hd]
  · have hlt : lastPlace (f64Mag a * f64Unit) (f64Mag b) * 2 ^ 52 + significand (f64Mag a * f64Unit) (f64Mag b)
        < 2047 * 2 ^ 52 := by
      rwa [← Bool.not_eq_true, f64IsInf_pack_round, not_le] at hinf
    refine ⟨f64IsFinite_pack_round _ hlt, fun y _ => ?_⟩
    rw [f64Mag_pack_round _ hlt hd, f64Pack_round_even _ hlt]
    exact significand_nearest hd y

end Sys2Proof.Machine
end

section
/-! PROOFS. What an engine step leaves as it was. Each set of fields that a kind of step may move is blanked out by a
function of its own; two states that are equal once blanked agree in every other field, and the named updates keep the
blanked state by definition. `exec_frame` says what a command's step moves, and the rules about who writes which
register (R21, R24, R28 to R36, R45) are read off it. -/

namespace Sys2Proof.Machine

/-! ## Blanked states -/

/-- `s` without what the steps before FINISH move: the sequencer's own registers (R37 to R41), the value carried to
FINISH (log 5), and the bus's side of the environment. -/
def sequencerBlanked (s : State) : State :=
  { s with
    acc := 0, k := 0, polls := 0, hopen := false, phase := .idle, val := 0
    env := { s.env with script := [], draws := 0, busLog := [] } }

/-- `s` without what a command's successful completion may write (R45), and without the counter of draws. -/
def effectBlanked (s : State) : State :=
  { s with
    gain := 0, offset := 0, scale := 0, resInt := 0, resFpLo := 0, resFpHi := 0
    env := { s.env with draws := 0 } }

/-- `s` without what a step other than a successful FINISH may move. -/
def progressBlanked (s : State) : State :=
  { sequencerBlanked s with busy := false, done := false, err := .none, raw0 := 0, raw1 := 0, raw2 := 0 }

/-- `s` without what a step other than the receipt of a sample may move. -/
def completionBlanked (s : State) : State :=
  effectBlanked { sequencerBlanked s with busy := false, done := false, err := .none }

/-- `s` without what any step of a command may move: the operand registers, the latches, OVR, the parameters and the
host's side of the environment are left. -/
def engineBlanked (s : State) : State := effectBlanked (progressBlanked s)

@[simp] theorem sequencerBlanked_dropAnswer (s : State) :
    sequencerBlanked (dropAnswer s) = sequencerBlanked s := by
  unfold dropAnswer
  split <;> rfl

@[simp] theorem sequencerBlanked_afterConfig (p : Purpose) (s : State) :
    sequencerBlanked (afterConfig p s) = sequencerBlanked s := by
  cases p <;> rfl

@[simp] theorem sequencerBlanked_goto (p : Phase) (s : State) :
    sequencerBlanked (goto p s) = sequencerBlanked s := rfl

@[simp] theorem sequencerBlanked_setHandle (b : Bool) (s : State) :
    sequencerBlanked (setHandle b s) = sequencerBlanked s := rfl

@[simp] theorem sequencerBlanked_logBus (e : BusEvent) (s : State) :
    sequencerBlanked (logBus e s) = sequencerBlanked s := rfl

theorem sequencerBlanked_pollDecision (ready : Bool) (s : State) :
    sequencerBlanked (pollDecision ready s) = sequencerBlanked s := by
  obtain ⟨-, h⟩ | ⟨-, -, h⟩ | ⟨-, -, h⟩ := pollDecision_cases ready s <;> rw [h] <;> rfl

theorem sequencerBlanked_averageSample (v : Word) (s : State) :
    sequencerBlanked (averageSample v s) = sequencerBlanked s := by
  obtain ⟨-, h⟩ | ⟨-, h⟩ := averageSample_cases v s <;> rw [h] <;> rfl

@[simp] theorem effectBlanked_fpUsed (r : Option DWord) (s : State) :
    effectBlanked (fpUsed r s) = effectBlanked s := by
  cases r <;> rfl

/-! ## What the parts of a plan move -/

/-- The parts of a plan move the sequencer's registers before FINISH, and at FINISH those a completion may write. -/
structure PlanFrame (c : Plan) : Prop where
  start : ∀ s, sequencerBlanked (c.start s) = sequencerBlanked s
  probed : ∀ ready s, sequencerBlanked (c.probed ready s) = sequencerBlanked s
  sampled : ∀ v s, sequencerBlanked (c.sampled v s) = sequencerBlanked s
  effect : ∀ s, effectBlanked (c.effect s) = effectBlanked s

theorem accessorPlan_frame {check : State → ErrCode} {effect : State → State}
    (h : ∀ s, effectBlanked (effect s) = effectBlanked s) : PlanFrame (accessorPlan check effect) :=
  ⟨fun _ => rfl, fun _ _ => rfl, fun _ _ => rfl, h⟩

theorem averagePlan_frame {check : State → ErrCode} {effect : State → State}
    (h : ∀ s, effectBlanked (effect s) = effectBlanked s) : PlanFrame (averagePlan check effect) :=
  ⟨fun _ => rfl, sequencerBlanked_pollDecision, sequencerBlanked_averageSample, h⟩

theorem planOf_frame (i : Instr) : PlanFrame (planOf i) := by
  cases i with
  | nop | setGain | setOffset | setScale | getOffset | close => exact accessorPlan_frame fun _ => rfl
  | readAvg | tare => exact averagePlan_frame fun _ => rfl
  | getUnits => exact averagePlan_frame fun s => effectBlanked_fpUsed (unitsQuotient s) s
  | calibrate => exact averagePlan_frame fun s => effectBlanked_fpUsed (scaleQuotient s) s
  | init | isReady => exact ⟨fun _ => rfl, fun _ _ => rfl, fun _ _ => rfl, fun _ => rfl⟩
  | readOne => exact ⟨fun _ => rfl, sequencerBlanked_pollDecision, fun _ _ => rfl, fun _ => rfl⟩

theorem runningPlan_frame (s : State) : PlanFrame (runningPlan s) := by
  obtain ⟨i, -, h⟩ | ⟨-, -, h⟩ := runningPlan_cases s <;> rw [h]
  · exact planOf_frame i
  · exact accessorPlan_frame fun _ => rfl

/-! ## What a step moves -/

theorem sequencerBlanked_checkStep {c : Plan} (hc : PlanFrame c) (s : State) :
    sequencerBlanked (checkStep c s) = sequencerBlanked s := by
  unfold checkStep
  split
  · split
    · rfl
    · exact hc.start s
  · rfl

theorem sequencerBlanked_sampleReceived {c : Plan} (hc : PlanFrame c) (r : Response) (s : State) :
    sequencerBlanked (sampleReceived c r s) = sequencerBlanked (writeRaw r s) := by
  obtain ⟨-, h⟩ | ⟨-, h⟩ := sampleReceived_cases c r s <;> rw [h]
  · exact hc.sampled ..
  · rfl

/-- A step is the FINISH step, or moves only the sequencer's registers, RAW besides where a sample transfer is
answered. -/
theorem runPlan_frame {c : Plan} {s t : State} (hc : PlanFrame c) (h : runPlan c s = .next t) :
    (∃ code, s.phase = .finish code ∧ t = finishStep c.effect code s) ∨
    sequencerBlanked t = sequencerBlanked s ∨
    (s.phase = .xfer .sample ∧ .sample ∈ c.cycles ∧
      ∃ r, sequencerBlanked t = sequencerBlanked (writeRaw r s)) := by
  obtain ⟨-, rfl⟩ | ⟨-, rfl⟩ | ⟨p, -, -, h⟩ | ⟨p, -, -, h⟩ | ⟨-, -, h⟩ | ⟨hp, hm, h⟩ | ⟨p, a, -, -, h⟩ |
    ⟨code, hp, rfl⟩ := runPlan_next h
  · exact .inr (.inl rfl)
  · exact .inr (.inl (sequencerBlanked_checkStep hc s))
  · obtain ⟨-, ⟨-, rfl⟩ | ⟨-, rfl⟩ | ⟨rx, -, rfl⟩⟩ := busOpen_next h <;> exact .inr (.inl (by simp))
  · obtain ⟨-, ⟨-, rfl⟩ | ⟨-, rfl⟩ | ⟨rx, -, rfl⟩⟩ := busConfigure_next h <;> exact .inr (.inl (by simp))
  · obtain ⟨-, ⟨-, rfl⟩ | ⟨-, rfl⟩ | ⟨rx, -, rfl⟩⟩ := busTransfer_next h <;>
      exact .inr (.inl (by simp [hc.probed]))
  · obtain ⟨-, ⟨-, rfl⟩ | ⟨-, rfl⟩ | ⟨rx, -, rfl⟩⟩ := busTransfer_next h
    · exact .inr (.inl (by simp))
    · exact .inr (.inl (by simp))
    · refine .inr (.inr ⟨hp, hm, rx, ?_⟩)
      rw [sequencerBlanked_sampleReceived hc]
      exact (congrArg (fun u => sequencerBlanked (writeRaw rx u)) (sequencerBlanked_dropAnswer s) :)
  · obtain ⟨-, rfl⟩ := busClose_next h
    exact .inr (.inl rfl)
  · exact .inl ⟨code, hp, rfl⟩

theorem completionBlanked_finishStep {c : Plan} (hc : PlanFrame c) (code : ErrCode) (s : State) :
    completionBlanked (finishStep c.effect code s) = completionBlanked s := by
  by_cases hcode : code = .none
  · subst hcode
    rw [finishStep_ok]
    exact (congrArg completionBlanked (hc.effect s) :)
  · rw [finishStep_error hcode]
    rfl

theorem engineBlanked_runPlan {c : Plan} {s t : State} (hc : PlanFrame c) (h : runPlan c s = .next t) :
    engineBlanked t = engineBlanked s := by
  obtain ⟨code, -, rfl⟩ | hf | ⟨-, -, r, hf⟩ := runPlan_frame hc h
  · exact (congrArg engineBlanked (completionBlanked_finishStep hc code s) :)
  · exact (congrArg engineBlanked hf :)
  · exact (congrArg engineBlanked hf :)

theorem engineBlanked_engineStep {s t : State} (h : engineStep s = .next t) : engineBlanked t = engineBlanked s :=
  engineBlanked_runPlan (runningPlan_frame s) (engineStep_eq_runPlan s ▸ h)

theorem exec_frame {i : Instr} {s t : State} (h : exec i s = .next t) :
    (∃ code, s.phase = .finish code ∧ t = finishStep (planOf i).effect code s) ∨
    sequencerBlanked t = sequencerBlanked s ∨
    (s.phase = .xfer .sample ∧ .sample ∈ (planOf i).cycles ∧
      ∃ r, sequencerBlanked t = sequencerBlanked (writeRaw r s)) :=
  runPlan_frame (planOf_frame i) (exec_eq_runPlan i s ▸ h)

/-- STATUS is not written before FINISH (R241). -/
theorem exec_status_of_not_finish {i : Instr} {s t : State} (h : exec i s = .next t)
    (hp : ∀ code, s.phase ≠ .finish code) : t.busy = s.busy ∧ t.done = s.done ∧ t.err = s.err := by
  obtain ⟨code, hcode, -⟩ | hf | ⟨-, -, r, hf⟩ := exec_frame h
  · exact absurd hcode (hp code)
  all_goals exact ⟨(congrArg State.busy hf :), (congrArg State.done hf :), (congrArg State.err hf :)⟩

/-! ## Which command's completion writes which register (R45) -/

theorem effect_gain {i : Instr} {s : State} (h : ((planOf i).effect s).gain ≠ s.gain) :
    ∃ g, i = .init g ∨ i = .setGain g := by
  cases i with
  | init g => exact ⟨g, .inl rfl⟩
  | setGain g => exact ⟨g, .inr rfl⟩
  | getUnits => exact absurd (fpUsed_gain (unitsQuotient s) s) h
  | calibrate => exact absurd (fpUsed_gain (scaleQuotient s) s) h
  | _ => exact absurd rfl h

theorem effect_offset {i : Instr} {s : State} (h : ((planOf i).effect s).offset ≠ s.offset) :
    (∃ g, i = .init g) ∨ i = .setOffset ∨ i = .tare := by
  cases i with
  | init g => exact .inl ⟨g, rfl⟩
  | setOffset => exact .inr (.inl rfl)
  | tare => exact .inr (.inr rfl)
  | getUnits => exact absurd (fpUsed_offset (unitsQuotient s) s) h
  | calibrate => exact absurd (fpUsed_offset (scaleQuotient s) s) h
  | _ => exact absurd rfl h

theorem effect_scale {i : Instr} {s : State} (h : ((planOf i).effect s).scale ≠ s.scale) :
    (∃ g, i = .init g) ∨ i = .setScale ∨ i = .calibrate := by
  cases i with
  | init g => exact .inl ⟨g, rfl⟩
  | setScale => exact .inr (.inl rfl)
  | calibrate => exact .inr (.inr rfl)
  | getUnits => exact absurd (fpUsed_scale (unitsQuotient s) s) h
  | _ => exact absurd rfl h

theorem effect_resInt {i : Instr} {s : State} (h : ((planOf i).effect s).resInt ≠ s.resInt) :
    i = .getOffset ∨ i = .isReady ∨ i = .readOne ∨ i = .readAvg := by
  cases i with
  | getOffset => exact .inl rfl
  | isReady => exact .inr (.inl rfl)
  | readOne => exact .inr (.inr (.inl rfl))
  | readAvg => exact .inr (.inr (.inr rfl))
  | getUnits => exact absurd (fpUsed_resInt (unitsQuotient s) s) h
  | calibrate => exact absurd (fpUsed_resInt (scaleQuotient s) s) h
  | _ => exact absurd rfl h

theorem effect_resFp {i : Instr} {s : State}
    (h : ((planOf i).effect s).resFpLo ≠ s.resFpLo ∨ ((planOf i).effect s).resFpHi ≠ s.resFpHi) :
    i = .getUnits := by
  cases i with
  | getUnits => rfl
  | calibrate =>
    exact absurd ⟨fpUsed_resFpLo (scaleQuotient s) s, fpUsed_resFpHi (scaleQuotient s) s⟩ (not_and_or.mpr h)
  | _ => exact absurd ⟨rfl, rfl⟩ (not_and_or.mpr h)

/-- Only READ_ONE and the averaging commands have a sample cycle (R160, R180). -/
theorem reads_of_sample_mem {i : Instr} (h : .sample ∈ (planOf i).cycles) : i = .readOne ∨ isAveraging i = true := by
  cases i with
  | readOne => exact .inl rfl
  | readAvg | getUnits | tare | calibrate => exact .inr rfl
  | nop | setGain | setOffset | setScale | getOffset | close => exact absurd h List.not_mem_nil
  | init | isReady => exact absurd (List.mem_singleton.mp h) (by decide)

/-- A register that all steps but a successful FINISH leave alone is written by the command's effect only. -/
theorem changed_by_effect {α : Type} {i : Instr} {s t : State} (register : State → α) (h : exec i s = .next t)
    (hreg : ∀ u, register (progressBlanked u) = register u) (hne : register t ≠ register s) :
    s.phase = .finish .none ∧ register ((planOf i).effect s) ≠ register s := by
  have hkeep (u : State) (hu : progressBlanked t = progressBlanked u) : register t = register u := by
    rw [← hreg, hu, hreg]
  obtain ⟨code, hp, rfl⟩ | hf | ⟨-, -, r, hf⟩ := exec_frame h
  · by_cases hcode : code = .none
    · subst hcode
      rw [finishStep_ok] at hkeep hne
      rw [hkeep ((planOf i).effect s) rfl] at hne
      exact ⟨hp, hne⟩
    · rw [finishStep_error hcode] at hkeep hne
      exact absurd (hkeep s rfl) hne
  · exact absurd (hkeep s (congrArg progressBlanked hf :)) hne
  · exact absurd (hkeep s (congrArg progressBlanked hf :)) hne

/-- A register that all steps but the receipt of a sample leave alone is written there only (R31, R152). -/
theorem changed_by_sample {α : Type} {i : Instr} {s t : State} (register : State → α) (h : exec i s = .next t)
    (hreg : ∀ u, register (completionBlanked u) = register u) (hne : register t ≠ register s) :
    s.phase = .xfer .sample ∧ (i = .readOne ∨ isAveraging i = true) := by
  have hkeep (hu : completionBlanked t = completionBlanked s) : register t = register s := by
    rw [← hreg, hu, hreg]
  obtain ⟨code, -, rfl⟩ | hf | ⟨hp, hm, -⟩ := exec_frame h
  · exact absurd (hkeep (completionBlanked_finishStep (planOf_frame i) code s)) hne
  · exact absurd (hkeep (congrArg completionBlanked hf :)) hne
  · exact ⟨hp, reads_of_sample_mem hm⟩

/-! ## The statements -/

/-- Settles O49: a changed register was changed by a completion's effect, RAW by a sample transfer's step. -/
theorem onlyNamedCommandsWriteState : Obligations.OnlyNamedCommandsWriteState := by
  unfold Obligations.OnlyNamedCommandsWriteState
  intro i s t h
  refine ⟨fun hne => ?_, fun hne => ?_, fun hne => ?_, fun hne => ?_, fun hne => ?_, fun hne => ?_⟩
  · exact (changed_by_effect State.gain h (fun _ => rfl) hne).imp_right effect_gain
  · exact (changed_by_effect State.offset h (fun _ => rfl) hne).imp_right effect_offset
  · exact (changed_by_effect State.scale h (fun _ => rfl) hne).imp_right effect_scale
  · exact (changed_by_effect State.resInt h (fun _ => rfl) hne).imp_right effect_resInt
  · rcases hne with hne | hne
    · exact (changed_by_effect State.resFpLo h (fun _ => rfl) hne).imp_right fun hlo => effect_resFp (.inl hlo)
    · exact (changed_by_effect State.resFpHi h (fun _ => rfl) hne).imp_right fun hhi => effect_resFp (.inr hhi)
  · rcases hne with hne | hne | hne
    · exact changed_by_sample State.raw0 h (fun _ => rfl) hne
    · exact changed_by_sample State.raw1 h (fun _ => rfl) hne
    · exact changed_by_sample State.raw2 h (fun _ => rfl) hne

/-- Settles O50: the step keeps the blanked state, and STATUS until FINISH. -/
theorem engineStepsKeepHostRegisters : Obligations.EngineStepsKeepHostRegisters := by
  unfold Obligations.EngineStepsKeepHostRegisters
  intro i s t h
  have hf : engineBlanked t = engineBlanked s := engineBlanked_runPlan (planOf_frame i) (exec_eq_runPlan i s ▸ h)
  exact ⟨(congrArg State.argN hf :), (congrArg State.argInt hf :), (congrArg State.argFpLo hf :),
    (congrArg State.argFpHi hf :), (congrArg State.cmdL hf :), (congrArg State.nL hf :), (congrArg State.intL hf :),
    (congrArg State.fpL hf :), (congrArg State.ovr hf :), (congrArg State.params hf :),
    (congrArg (·.env.sched) hf :), (congrArg (·.env.hostLog) hf :), exec_status_of_not_finish h⟩

end Sys2Proof.Machine
end

section
/-! PROOFS. What a step of the machine can be, the host's moves besides the engine's steps (R14, R65), and what that
says of OVR (R24, R247) and of a running command's latches (R32, R33). -/

namespace Sys2Proof.Machine

/-- `s` without what a host read, an operand write or a WAIT may move: the operand registers, the schedule and the
host's log. -/
def hostBlanked (s : State) : State :=
  { s with argN := 0, argInt := 0, argFpLo := 0, argFpHi := 0, env := { s.env with sched := [], hostLog := [] } }

/-- A step of the machine is an engine step, a reset, a CMD write, a STATUS write, or a move of the host that reaches no
more than the operand registers and the host's own record. -/
inductive StepKind (s t : State) : Prop
  | engine (u : State) (hsched : s.env.sched = [] ∨ ∃ rest, s.env.sched = .engine :: rest)
      (hu : hostBlanked u = hostBlanked s) (h : engineStep u = .next t)
  | reset (rest : List HostMove) (hsched : s.env.sched = .reset :: rest) (h : t = assertReset (dropMove rest s))
  | command (v : Word) (rest : List HostMove) (u : State) (hsched : s.env.sched = .write 0x00 4 v :: rest)
      (hu : hostBlanked u = hostBlanked s) (h : t = writeCmd v u)
  | status (v : Word) (rest : List HostMove) (u : State) (hsched : s.env.sched = .write 0x04 4 v :: rest)
      (hu : hostBlanked u = hostBlanked s) (h : t = writeStatus v u)
  | host (h : hostBlanked t = hostBlanked s)

/-- CMD and STATUS stand at one offset each (R22). -/
theorem off_of_regAt (off : Nat) : (regAt off = .cmd → off = 0x00) ∧ (regAt off = .status → off = 0x04) := by
  unfold regAt
  repeat' split
  all_goals simp_all

theorem hostBlanked_hostWait (gaps : List (List Turn)) (s : State) :
    hostBlanked (hostWait gaps s) = hostBlanked s := by
  obtain ⟨-, h⟩ | ⟨-, h⟩ := hostWait_cases gaps s <;> rw [h] <;> rfl

theorem stepKind_write {s t : State} {off bytes : Nat} {v : Word} {rest : List HostMove}
    (hsched : s.env.sched = .write off bytes v :: rest) (h : hostWrite off bytes v (dropMove rest s) = .next t) :
    StepKind s t := by
  obtain ⟨hd, ht⟩ := hostWrite_next h
  obtain ⟨rfl, -, -⟩ := (definedAccess_iff off bytes).mp hd
  obtain ⟨hr, hw⟩ | ⟨hr, hw⟩ | ⟨a, i, lo, hi, hw⟩ :=
    writeReg_cases (regAt off) v (logHost (.wrote off v) (dropMove rest s))
  · obtain rfl := (off_of_regAt off).1 hr
    exact .command v rest (logHost (.wrote 0x00 v) (dropMove rest s)) hsched rfl (ht.trans hw)
  · obtain rfl := (off_of_regAt off).2 hr
    exact .status v rest (logHost (.wrote 0x04 v) (dropMove rest s)) hsched rfl (ht.trans hw)
  · exact .host (by rw [ht, hw]; rfl)

theorem stepKind_of_step {s t : State} (h : step s = .next t) : StepKind s t := by
  obtain ⟨hs, heq⟩ | ⟨m, rest, hs, heq⟩ := step_cases s <;> rw [heq] at h
  · exact .engine s (.inl hs) rfl h
  · cases m with
    | read off bytes => exact .host (by rw [(hostRead_next h).2]; rfl)
    | write off bytes v => exact stepKind_write hs h
    | wait gaps =>
      cases h
      exact .host (hostBlanked_hostWait gaps (dropMove rest s))
    | engine => exact .engine (dropMove rest s) (.inr ⟨rest, hs⟩) rfl h
    | reset =>
      cases h
      exact .reset rest hs rfl

/-! ## OVR and the latches -/

/-- OVR stays, rises by a rejected command, falls by reset, or is cleared by bit 2 of a STATUS write. -/
theorem ovr_step {s t : State} (h : step s = .next t) :
    t.ovr = s.ovr ∨
    (t.ovr = true ∧ s.busy = true ∧ ∃ v rest, s.env.sched = .write 0x00 4 v :: rest) ∨
    (t.ovr = false ∧ ∃ rest, s.env.sched = .reset :: rest) ∨
    ∃ v rest, s.env.sched = .write 0x04 4 v :: rest ∧ t.ovr = (s.ovr && !v.getLsbD 2) := by
  cases stepKind_of_step h with
  | engine u hsched hu h =>
    have htu : t.ovr = u.ovr := (congrArg State.ovr (engineBlanked_engineStep h) :)
    exact .inl (htu.trans (congrArg State.ovr hu :))
  | reset rest hsched h => exact .inr (.inr (.inl ⟨h ▸ rfl, rest, hsched⟩))
  | command v rest u hsched hu h =>
    have hbusy : u.busy = s.busy := (congrArg State.busy hu :)
    obtain ⟨hb, hw⟩ | ⟨-, hw⟩ := writeCmd_cases v u <;> rw [h, hw]
    · exact .inr (.inl ⟨rfl, hbusy ▸ hb, v, rest, hsched⟩)
    · exact .inl (congrArg State.ovr hu :)
  | status v rest u hsched hu h =>
    have hovr : u.ovr = s.ovr := (congrArg State.ovr hu :)
    exact .inr (.inr (.inr ⟨v, rest, hsched, by rw [h, ← hovr]; rfl⟩))
  | host h => exact .inl (congrArg State.ovr h :)

/-- The latched word and operands (R32, R33). -/
def latches (s : State) : Word × Word × Word × DWord := (s.cmdL, s.nL, s.intL, s.fpL)

theorem latches_step {s t : State} (hb : s.busy = true) (h : step s = .next t) :
    latches t = latches s ∨ ∃ rest, s.env.sched = .reset :: rest := by
  cases stepKind_of_step h with
  | engine u hsched hu h =>
    have htu : latches t = latches u := (congrArg latches (engineBlanked_engineStep h) :)
    exact .inl (htu.trans (congrArg latches hu :))
  | reset rest hsched h => exact .inr ⟨rest, hsched⟩
  | command v rest u hsched hu h =>
    have hbusy : u.busy = s.busy := (congrArg State.busy hu :)
    have hw : writeCmd v u = { u with ovr := true } := by simp [writeCmd, hbusy, hb]
    rw [h, hw]
    exact .inl (congrArg latches hu :)
  | status v rest u hsched hu h =>
    subst h
    exact .inl (congrArg latches hu :)
  | host h => exact .inl (congrArg latches h :)

/-! ## The statements -/

/-- Settles O52: of the ways OVR can go, only a rejected CMD write leaves it 1, and only a STATUS write or reset 0. -/
theorem ovrIsSticky : Obligations.OvrIsSticky := by
  unfold Obligations.OvrIsSticky
  intro s t h
  obtain hkeep | ⟨hset, hrejected⟩ | ⟨hclear, hreset⟩ | ⟨v, rest, hsched, hw1c⟩ := ovr_step h
  · exact ⟨fun h0 h1 => absurd (hkeep.symm.trans h1) (by simp [h0]),
      fun h1 h0 => absurd (hkeep.symm.trans h0) (by simp [h1])⟩
  · exact ⟨fun _ _ => hrejected, fun _ h0 => absurd (hset.symm.trans h0) (by decide)⟩
  · exact ⟨fun _ h1 => absurd (hclear.symm.trans h1) (by decide), fun _ _ => .inl hreset⟩
  · refine ⟨fun h0 h1 => ?_, fun h1 h0 => .inr ⟨v, rest, hsched, ?_⟩⟩
    · simp [hw1c, h0] at h1
    · simpa [hw1c, h1] using h0

/-- Settles O53: a CMD write latches only where BUSY = 0. -/
theorem runningCommandKeepsItsLatches : Obligations.RunningCommandKeepsItsLatches := by
  unfold Obligations.RunningCommandKeepsItsLatches
  intro s t hb h
  simpa [latches] using latches_step hb h

end Sys2Proof.Machine
end

section
/-! PROOFS. Coherence is kept by every step. An engine step is followed phase by phase: what it leads to is a phase of
the running command's plan (`Coherent.advance`), and the host's moves reach nothing that coherence speaks of but by
accepting a command or by reset. -/

namespace Sys2Proof.Machine

/-! ## What coherence needs of a plan -/

/-- The step that receives an answer leads to the close of its cycle, and from there to a cycle of the plan only. -/
def ClosesCycle (c : Plan) (p : Purpose) (s t : State) : Prop :=
  t.hopen = s.hopen ∧ ∃ after, t.phase = .closing p after ∧ ∀ q, after = .again q → q ∈ c.cycles

/-- The checks look at the latches only, the received steps close their cycle, and a completion whose checks passed
leaves GAIN the code of a gain. -/
structure PlanSound (c : Plan) : Prop where
  check_congr : ∀ s t : State, t.nL = s.nL → t.fpL = s.fpL → c.check t = c.check s
  start_hopen : ∀ s, (c.start s).hopen = s.hopen
  probed : .probe ∈ c.cycles → ∀ ready s, ClosesCycle c .probe s (c.probed ready s)
  sampled : .sample ∈ c.cycles → ∀ v s, ClosesCycle c .sample s (c.sampled v s)
  effect_gain : ∀ s, c.check s = .none → s.gain ≠ 3#2 → (c.effect s).gain ≠ 3#2

theorem pollDecision_closes {c : Plan} (hc : c.cycles = [.probe, .sample]) (ready : Bool) (s : State) :
    ClosesCycle c .probe s (pollDecision ready s) := by
  obtain ⟨-, h⟩ | ⟨-, -, h⟩ | ⟨-, -, h⟩ := pollDecision_cases ready s <;> rw [h] <;>
    exact ⟨rfl, _, rfl, by simp [hc]⟩

theorem averageSample_closes {c : Plan} (hc : c.cycles = [.probe, .sample]) (v : Word) (s : State) :
    ClosesCycle c .sample s (averageSample v s) := by
  obtain ⟨-, h⟩ | ⟨-, h⟩ := averageSample_cases v s <;> rw [h] <;> exact ⟨rfl, _, rfl, by simp [hc]⟩

theorem countCheck_congr {s t : State} (h : t.nL = s.nL) : countCheck t = countCheck s := by
  unfold countCheck countN
  rw [h]

theorem calibrateCheck_congr {s t : State} (h : t.nL = s.nL) (hfp : t.fpL = s.fpL) :
    calibrateCheck t = calibrateCheck s := by
  simp [calibrateCheck, countN, h, hfp]

theorem gain_of_gainCheck {g : BitVec 2} {s : State} (h : gainCheck g s = .none) : g ≠ 3#2 := by
  rintro rfl
  cases h

/-- A command without a bus cycle has no answer to receive. -/
theorem accessorPlan_sound {check : State → ErrCode} {effect : State → State}
    (hcheck : ∀ s t : State, check t = check s)
    (hgain : ∀ s, check s = .none → s.gain ≠ 3#2 → (effect s).gain ≠ 3#2) : PlanSound (accessorPlan check effect) :=
  ⟨fun s t _ _ => hcheck s t, fun _ => rfl, fun h => absurd h List.not_mem_nil, fun h => absurd h List.not_mem_nil,
    hgain⟩

theorem averagePlan_sound {check : State → ErrCode} {effect : State → State}
    (hcheck : ∀ s t : State, t.nL = s.nL → t.fpL = s.fpL → check t = check s)
    (hgain : ∀ s, (effect s).gain = s.gain) : PlanSound (averagePlan check effect) :=
  ⟨hcheck, fun _ => rfl, fun _ => pollDecision_closes rfl, fun _ => averageSample_closes rfl,
    fun s _ h => hgain s ▸ h⟩

theorem planOf_sound (i : Instr) : PlanSound (planOf i) := by
  cases i with
  | nop | setOffset | setScale | getOffset | close => exact accessorPlan_sound (fun _ _ => rfl) fun _ _ h => h
  | setGain g => exact accessorPlan_sound (fun _ _ => rfl) fun _ h _ => gain_of_gainCheck h
  | init g =>
    exact ⟨fun _ _ _ _ => rfl, fun _ => rfl, fun h => absurd (List.mem_singleton.mp h) (by decide),
      fun h => absurd (List.mem_singleton.mp h) (by decide), fun s h _ => gain_of_gainCheck (s := s) h⟩
  | isReady =>
    exact ⟨fun _ _ _ _ => rfl, fun _ => rfl, fun _ _ _ => ⟨rfl, _, rfl, nofun⟩,
      fun h => absurd (List.mem_singleton.mp h) (by decide), fun _ _ h => h⟩
  | readOne =>
    exact ⟨fun _ _ _ _ => rfl, fun _ => rfl, fun _ => pollDecision_closes rfl,
      fun _ _ _ => ⟨rfl, _, rfl, nofun⟩, fun _ _ h => h⟩
  | readAvg | tare => exact averagePlan_sound (fun _ _ h _ => countCheck_congr h) fun _ => rfl
  | getUnits => exact averagePlan_sound (fun _ _ h _ => countCheck_congr h) fun s => fpUsed_gain (unitsQuotient s) s
  | calibrate => exact averagePlan_sound (fun _ _ => calibrateCheck_congr) fun s => fpUsed_gain (scaleQuotient s) s

theorem runningPlan_sound (s : State) : PlanSound (runningPlan s) := by
  obtain ⟨i, -, h⟩ | ⟨-, -, h⟩ := runningPlan_cases s <;> rw [h]
  · exact planOf_sound i
  · exact accessorPlan_sound (fun _ _ => rfl) fun _ _ h => h

theorem sampleReceived_closes {c : Plan} (hc : PlanSound c) (hm : .sample ∈ c.cycles) (r : Response) (s : State) :
    ClosesCycle c .sample s (sampleReceived c r s) := by
  obtain ⟨-, h⟩ | ⟨-, h⟩ := sampleReceived_cases c r s <;> rw [h]
  · exact hc.sampled hm _ (writeRaw r s)
  · exact ⟨rfl, _, rfl, nofun⟩

/-! ## Coherence read off at a phase -/

section Phases
variable {s : State} (hs : Coherent s)
include hs

theorem Coherent.hopen_at {ph : Phase} (hp : s.phase = ph) : s.hopen = holdsHandle ph := hp ▸ hs.hopen_eq

theorem Coherent.at_opening {p : Purpose} (hp : s.phase = .opening p) :
    p ∈ (runningPlan s).cycles ∧ (runningPlan s).check s = .none := by
  simpa only [PhaseFits, hp] using hs.fits

theorem Coherent.at_config {p : Purpose} (hp : s.phase = .config p) :
    p ∈ (runningPlan s).cycles ∧ (runningPlan s).check s = .none := by
  simpa only [PhaseFits, hp] using hs.fits

theorem Coherent.at_xfer {p : Purpose} (hp : s.phase = .xfer p) :
    p ∈ (runningPlan s).cycles ∧ p ≠ .trial ∧ (runningPlan s).check s = .none := by
  simpa only [PhaseFits, hp] using hs.fits

theorem Coherent.at_closing_again {p q : Purpose} (hp : s.phase = .closing p (.again q)) :
    p ∈ (runningPlan s).cycles ∧ q ∈ (runningPlan s).cycles ∧ (runningPlan s).check s = .none := by
  simpa only [PhaseFits, hp] using hs.fits

theorem Coherent.at_closing_ends {p : Purpose} {code : ErrCode} (hp : s.phase = .closing p (.ends code)) :
    p ∈ (runningPlan s).cycles ∧ (runningPlan s).check s = .none := by
  simpa only [PhaseFits, hp] using hs.fits

theorem Coherent.at_finish {code : ErrCode} (hp : s.phase = .finish code) :
    code = .none → (runningPlan s).check s = .none := by
  simpa only [PhaseFits, hp] using hs.fits

end Phases

/-! ## Engine steps -/

section EngineStep
variable {s t : State} (hs : Coherent s) (h : runPlan (runningPlan s) s = .next t)
include h

theorem runningPlan_next : runningPlan t = runningPlan s :=
  runningPlan_congr (congrArg State.cmdL (engineBlanked_runPlan (runningPlan_frame s) h) :)

theorem check_next : (runningPlan s).check t = (runningPlan s).check s :=
  have hf := engineBlanked_runPlan (runningPlan_frame s) h
  (runningPlan_sound s).check_congr s t (congrArg State.nL hf :) (congrArg State.fpL hf :)

include hs

/-- Between CHECK and FINISH it is enough that the next phase fits the plan and HOPEN fits the phase. -/
theorem Coherent.advance {ph ph' : Phase} (hp : s.phase = ph) (hrun : ph ≠ .idle) (hfin : ∀ code, ph ≠ .finish code)
    (hp' : t.phase = ph') (hrun' : ph' ≠ .idle) (hopen : t.hopen = holdsHandle ph')
    (hfits : PhaseFits (runningPlan s) t) : Coherent t := by
  subst hp hp'
  have hparams : t.params = s.params := (congrArg State.params (engineBlanked_runPlan (runningPlan_frame s) h) :)
  have hkeep : t.busy = s.busy ∧ t.gain = s.gain := by
    obtain ⟨code, hcode, -⟩ | hf | ⟨-, -, r, hf⟩ := runPlan_frame (runningPlan_frame s) h
    · exact absurd hcode (hfin code)
    all_goals exact ⟨(congrArg State.busy hf :), (congrArg State.gain hf :)⟩
  obtain ⟨hbusy, hgain⟩ := hkeep
  refine ⟨?_, hopen, hgain ▸ hs.gain_ne, hparams ▸ hs.resetGain_ne, (runningPlan_next h).symm ▸ hfits⟩
  rw [hbusy]
  exact iff_of_true (hs.busy_iff.mpr hrun) hrun'

/-- An answer that has not come leaves the phase and the handle. -/
theorem Coherent.wait {ph : Phase} (hp : s.phase = ph) (hrun : ph ≠ .idle) (hfin : ∀ code, ph ≠ .finish code)
    (ht : t = dropAnswer s) : Coherent t := by
  have hphase : t.phase = s.phase := by simp [ht]
  have hopen : t.hopen = s.hopen := by simp [ht]
  refine hs.advance h hp hrun hfin (hphase.trans hp) hrun (hopen.trans (hp ▸ hs.hopen_eq)) ?_
  unfold PhaseFits
  rw [hphase, check_next h]
  exact hs.fits

theorem Coherent.after_check (hp : s.phase = .check) (ht : t = checkStep (runningPlan s) s) : Coherent t := by
  have hopen : s.hopen = false := hs.hopen_at hp
  have hcheck := check_next h
  by_cases hnone : (runningPlan s).check s = .none
  · cases hcycles : (runningPlan s).cycles with
    | nil =>
      rw [checkStep_accessor hnone hcycles] at ht
      subst ht
      exact hs.advance h hp nofun nofun rfl nofun hopen fun _ => hcheck.trans hnone
    | cons p ps =>
      rw [checkStep_cycle hnone hcycles] at ht
      subst ht
      exact hs.advance h hp nofun nofun rfl nofun (((runningPlan_sound s).start_hopen s).trans hopen)
        ⟨by simp [hcycles], hcheck.trans hnone⟩
  · rw [checkStep_error hnone] at ht
    subst ht
    exact hs.advance h hp nofun nofun rfl nofun hopen fun hcode => absurd hcode hnone

theorem Coherent.after_open {p : Purpose} (hp : s.phase = .opening p) (ho : busOpen p s = .next t) : Coherent t := by
  obtain ⟨hm, hnone⟩ := hs.at_opening hp
  have hcheck := check_next h
  obtain ⟨hopen, ⟨-, ht⟩ | ⟨-, ht⟩ | ⟨rx, -, ht⟩⟩ := busOpen_next ho
  · exact hs.wait h hp nofun nofun ht
  · subst ht
    exact hs.advance h hp nofun nofun rfl nofun ((dropAnswer_hopen s).trans hopen) nofun
  · subst ht
    exact hs.advance h hp nofun nofun rfl nofun rfl ⟨hm, hcheck.trans hnone⟩

theorem Coherent.after_configure {p : Purpose} (hp : s.phase = .config p) (ho : busConfigure p s = .next t) :
    Coherent t := by
  obtain ⟨hm, hnone⟩ := hs.at_config hp
  have hcheck := check_next h
  obtain ⟨hopen, ⟨-, ht⟩ | ⟨-, ht⟩ | ⟨rx, -, ht⟩⟩ := busConfigure_next ho
  · exact hs.wait h hp nofun nofun ht
  · subst ht
    exact hs.advance h hp nofun nofun rfl nofun ((dropAnswer_hopen s).trans hopen) ⟨hm, hcheck.trans hnone⟩
  · subst ht
    cases p with
    | trial =>
      exact hs.advance h hp nofun nofun rfl nofun ((dropAnswer_hopen s).trans hopen)
        ⟨hm, hcheck.trans hnone⟩
    | probe | sample =>
      exact hs.advance h hp nofun nofun rfl nofun ((dropAnswer_hopen s).trans hopen)
        ⟨hm, by decide, hcheck.trans hnone⟩

theorem Coherent.after_transfer {p : Purpose} {tx : List Byte} {f : Response → State → State} (hp : s.phase = .xfer p)
    (ho : busTransfer p tx f s = .next t) (hf : ∀ rx u, ClosesCycle (runningPlan s) p u (f rx u)) : Coherent t := by
  obtain ⟨hm, -, hnone⟩ := hs.at_xfer hp
  have hcheck := check_next h
  obtain ⟨hopen, ⟨-, ht⟩ | ⟨-, ht⟩ | ⟨rx, -, ht⟩⟩ := busTransfer_next ho
  · exact hs.wait h hp nofun nofun ht
  · subst ht
    exact hs.advance h hp nofun nofun rfl nofun ((dropAnswer_hopen s).trans hopen) ⟨hm, hcheck.trans hnone⟩
  · obtain ⟨hkeep, after, hphase, hcycle⟩ :=
      hf rx (logBus (.transferred tx tx.length (some (rx.toList.take tx.length))) (dropAnswer s))
    rw [← ht] at hkeep hphase
    refine hs.advance h hp nofun nofun hphase nofun (hkeep.trans ((dropAnswer_hopen s).trans hopen)) ?_
    unfold PhaseFits
    rw [hphase]
    cases after with
    | again q => exact ⟨hm, hcycle q rfl, hcheck.trans hnone⟩
    | ends code => exact ⟨hm, hcheck.trans hnone⟩

theorem Coherent.after_close {p : Purpose} {after : After} (hp : s.phase = .closing p after)
    (ho : busClose after s = .next t) : Coherent t := by
  have hcheck := check_next h
  obtain ⟨-, ht⟩ := busClose_next ho
  subst ht
  cases after with
  | again q =>
    obtain ⟨-, hq, hnone⟩ := hs.at_closing_again hp
    exact hs.advance h (ph' := .opening q) hp nofun nofun rfl nofun rfl ⟨hq, hcheck.trans hnone⟩
  | ends code =>
    obtain ⟨-, hnone⟩ := hs.at_closing_ends hp
    exact hs.advance h (ph' := .finish code) hp nofun nofun rfl nofun rfl fun _ => hcheck.trans hnone

theorem Coherent.after_finish {code : ErrCode} (hp : s.phase = .finish code)
    (ht : t = finishStep (runningPlan s).effect code s) : Coherent t := by
  have hparams : t.params = s.params := (congrArg State.params (engineBlanked_runPlan (runningPlan_frame s) h) :)
  have hopen : s.hopen = false := hs.hopen_at hp
  subst ht
  refine ⟨by simp [finishStep], ?_, ?_, hparams ▸ hs.resetGain_ne, by simp [PhaseFits, finishStep]⟩
  · by_cases hcode : code = .none
    · subst hcode
      rw [finishStep_ok]
      exact (congrArg State.hopen ((runningPlan_frame s).effect s) :).trans hopen
    · rw [finishStep_error hcode]
      exact hopen
  · by_cases hcode : code = .none
    · subst hcode
      rw [finishStep_ok]
      exact (runningPlan_sound s).effect_gain s (hs.at_finish hp rfl) hs.gain_ne
    · rw [finishStep_error hcode]
      exact hs.gain_ne

theorem Coherent.after_runPlan : Coherent t := by
  obtain ⟨-, ht⟩ | ⟨hp, ht⟩ | ⟨p, hp, -, ho⟩ | ⟨p, hp, -, ho⟩ | ⟨hp, hm, ho⟩ | ⟨hp, hm, ho⟩ | ⟨p, after, hp, -, ho⟩ |
    ⟨code, hp, ht⟩ := runPlan_next h
  · exact ht ▸ hs
  · exact hs.after_check h hp ht
  · exact hs.after_open h hp ho
  · exact hs.after_configure h hp ho
  · exact hs.after_transfer h hp ho fun rx u => (runningPlan_sound s).probed hm _ u
  · exact hs.after_transfer h hp ho fun rx u => sampleReceived_closes (runningPlan_sound s) hm rx u
  · exact hs.after_close h hp ho
  · exact hs.after_finish h hp ht

end EngineStep

/-! ## The host's moves -/

/-- Coherence speaks of what neither a host move's record nor an operand write nor STATUS's sticky bits reach. -/
theorem Coherent.congr {s t : State} (hs : Coherent s) (hbusy : t.busy = s.busy) (hphase : t.phase = s.phase)
    (hopen : t.hopen = s.hopen) (hgain : t.gain = s.gain) (hparams : t.params = s.params) (hcmd : t.cmdL = s.cmdL)
    (hn : t.nL = s.nL) (hfp : t.fpL = s.fpL) : Coherent t := by
  refine ⟨by rw [hbusy, hphase]; exact hs.busy_iff, by rw [hopen, hphase]; exact hs.hopen_eq, hgain ▸ hs.gain_ne,
    hparams ▸ hs.resetGain_ne, ?_⟩
  unfold PhaseFits
  rw [runningPlan_congr hcmd, hphase, (runningPlan_sound s).check_congr s t hn hfp]
  exact hs.fits

theorem Coherent.of_hostBlanked {s t : State} (hs : Coherent s) (h : hostBlanked t = hostBlanked s) : Coherent t :=
  hs.congr (congrArg State.busy h :) (congrArg State.phase h :) (congrArg State.hopen h :) (congrArg State.gain h :)
    (congrArg State.params h :) (congrArg State.cmdL h :) (congrArg State.nL h :) (congrArg State.fpL h :)

theorem Coherent.after_writeCmd {s : State} (hs : Coherent s) (v : Word) : Coherent (writeCmd v s) := by
  obtain ⟨-, h⟩ | ⟨hidle, h⟩ := writeCmd_cases v s <;> rw [h]
  · exact hs.congr rfl rfl rfl rfl rfl rfl rfl rfl
  · have hphase : s.phase = .idle := by
      by_contra hne
      exact absurd (hs.busy_iff.mpr hne) (by simp [hidle])
    exact ⟨by simp, (hs.hopen_at hphase :), hs.gain_ne, hs.resetGain_ne, trivial⟩

theorem coherent_assertReset {s : State} (h : s.params.resetGain ≠ 3#2) : Coherent (assertReset s) :=
  ⟨⟨fun hb => Bool.noConfusion hb, fun hp => absurd rfl hp⟩, rfl, h, h, trivial⟩

/-! ## The statements -/

/-- Settles O56, by the five kinds of step. -/
theorem stepKeepsCoherence : Obligations.StepKeepsCoherence := by
  unfold Obligations.StepKeepsCoherence
  intro s t hs h
  cases stepKind_of_step h with
  | engine u _ hu h => exact (hs.of_hostBlanked hu).after_runPlan (engineStep_eq_runPlan u ▸ h)
  | reset rest _ h => exact h ▸ coherent_assertReset hs.resetGain_ne
  | command v rest u _ hu h => exact h ▸ (hs.of_hostBlanked hu).after_writeCmd v
  | status v rest u _ hu h => exact h ▸ (hs.of_hostBlanked hu).congr rfl rfl rfl rfl rfl rfl rfl rfl
  | host h => exact hs.of_hostBlanked h

end Sys2Proof.Machine
end

section
/-! PROOFS. The host window: what a read and a write of it are as steps of the machine (R61, R64), and from that the
registers one by one (R22 to R31, R63); and reset (R44, R270). -/

namespace Sys2Proof.Machine

/-! ## Accesses as steps -/

/-- The state once an access of the host is taken off the schedule and recorded. -/
def accessed (e : HostEvent) (rest : List HostMove) (s : State) : State :=
  { s with env := { s.env with sched := rest, hostLog := e :: s.env.hostLog } }

/-- The registers do not lie in the environment. -/
theorem readReg_dropMove (r : HostReg) (rest : List HostMove) (s : State) :
    readReg r (dropMove rest s) = readReg r s := by
  cases r <;> rfl

theorem step_read {s : State} {off : Nat} {rest : List HostMove} (h : s.env.sched = .read off 4 :: rest)
    (hd : definedAccess off 4 = true) :
    step s = .next (accessed (.read off (readReg (regAt off) s)) rest s) := by
  rw [step_of_move h, performMove, hostRead, if_pos hd, readReg_dropMove]
  rfl

theorem step_write {s : State} {off : Nat} {v : Word} {rest : List HostMove}
    (h : s.env.sched = .write off 4 v :: rest) (hd : definedAccess off 4 = true) :
    step s = .next (writeReg (regAt off) v (accessed (.wrote off v) rest s)) := by
  rw [step_of_move h, performMove, hostWrite, if_pos hd]
  rfl

/-- An access outside the defined ones is refused (R61, log 11). -/
theorem step_undefinedAccess {s : State} {off bytes : Nat} {v : Word} {rest : List HostMove}
    (hd : definedAccess off bytes = false)
    (h : s.env.sched = .read off bytes :: rest ∨ s.env.sched = .write off bytes v :: rest) :
    step s = .refused (.undefinedAccess off bytes) := by
  obtain h | h := h <;> simp [step_of_move h, performMove, hostRead, hostWrite, hd]

/-! ## Places that read 0 or are not written (R63) -/

theorem regAt_of_reads_zero : ∀ off ∈ [0x1C, 0x34, 0x38, 0x3C, 0x00],
    definedAccess off 4 = true ∧ (regAt off = .reserved ∨ regAt off = .cmd) := by
  decide

theorem regAt_of_ignores_write : ∀ off ∈ [0x1C, 0x34, 0x38, 0x3C, 0x18, 0x20, 0x24, 0x28, 0x2C, 0x30],
    definedAccess off 4 = true ∧
      regAt off ∈ [.reserved, .resInt, .resFpLo, .resFpHi, .raw0, .raw1, .raw2] := by
  decide

theorem writeReg_ignored {r : HostReg} (h : r ∈ [.reserved, .resInt, .resFpLo, .resFpHi, .raw0, .raw1, .raw2])
    (v : Word) (s : State) : writeReg r v s = s := by
  cases r with
  | resInt | resFpLo | resFpHi | raw0 | raw1 | raw2 | reserved => rfl
  | cmd | status | argN | argInt | argFpLo | argFpHi => exact absurd h (by decide)

/-! ## STATUS -/

theorem and_not_eq_ite (b c : Bool) : (b && !c) = if c = true then false else b := by
  cases c <;> simp

/-- The fields of a word put together as R24 puts STATUS together. -/
theorem statusFields (e : BitVec 4) (o d b : Bool) :
    let w : Word := 0#20 ++ e ++ 0#5 ++ BitVec.ofBool o ++ BitVec.ofBool d ++ BitVec.ofBool b
    w.getLsbD 0 = b ∧ w.getLsbD 1 = d ∧ w.getLsbD 2 = o ∧ w.extractLsb' 3 5 = 0#5 ∧ w.extractLsb' 12 20 = 0#20 ∧
      w.extractLsb' 8 4 = e := by
  decide +revert

theorem errBits_injective : Function.Injective errBits := by
  intro a b
  cases a <;> cases b <;> decide

theorem step_writeStatus {s : State} {v : Word} {rest : List HostMove} (h : s.env.sched = .write 0x04 4 v :: rest) :
    step s = .next (writeStatus v (accessed (.wrote 0x04 v) rest s)) :=
  step_write h rfl

/-! ## The statements -/

/-- Settles O8: the fields of the STATUS word, and its two bits that clear. -/
theorem statusReadsFieldsAndClearsByOnes : Obligations.StatusReadsFieldsAndClearsByOnes := by
  unfold Obligations.StatusReadsFieldsAndClearsByOnes
  refine ⟨fun s rest h => ⟨statusWord s, step_read h rfl, ?_⟩, fun s v rest h => ?_⟩
  · obtain ⟨hb, hd, ho, hlow, hhigh, he⟩ := statusFields (errBits s.err) s.ovr s.done s.busy
    have hcode (c : ErrCode) : s.err = c ↔ (statusWord s).extractLsb' 8 4 = errBits c := by
      rw [← errBits_injective.eq_iff]
      exact Eq.congr_left he.symm
    exact ⟨hb, hd, ho, hlow, hhigh, hcode .none, hcode .busUnavailable, hcode .transferFailed, hcode .invalidResponse,
      hcode .invalidArgument, hcode .notReady, hcode .illegalCmd⟩
  · rw [step_writeStatus h, ← and_not_eq_ite, ← and_not_eq_ite]
    rfl

/-- Settles O9: the register at each of these offsets reads 0 or is not written, and from 0x40 on no access is
defined. -/
theorem reservedOffsetsReadZeroAndIgnoreWrites : Obligations.ReservedOffsetsReadZeroAndIgnoreWrites := by
  unfold Obligations.ReservedOffsetsReadZeroAndIgnoreWrites
  refine ⟨fun s off rest hoff h => ?_, fun s off v rest hoff h => ?_, fun s v rest h => ?_,
    fun s off bytes v rest hoff h => ?_⟩
  · obtain ⟨hd, hreg | hreg⟩ := regAt_of_reads_zero off hoff <;> rw [step_read h hd, hreg] <;> rfl
  · obtain ⟨hd, hreg⟩ := regAt_of_ignores_write off hoff
    rw [step_write h hd, writeReg_ignored hreg]
    rfl
  · rw [step_writeStatus h, Bool.and_comm _ s.done, Bool.and_comm _ s.ovr]
    rfl
  · refine step_undefinedAccess ?_ h
    rw [← Bool.not_eq_true, definedAccess_iff]
    omega

/-- Settles O11, register by register. -/
theorem operandRegistersStoreAndReadBack : Obligations.OperandRegistersStoreAndReadBack := by
  unfold Obligations.OperandRegistersStoreAndReadBack
  refine ⟨fun s v rest => ⟨fun h => step_write h rfl, fun h => step_write h rfl, fun h => step_write h rfl,
    fun h => step_write h rfl⟩, fun s off v rest h hmem => ?_⟩
  have hreg : definedAccess off 4 = true ∧ readReg (regAt off) s = v := by
    simp only [List.mem_cons, Prod.mk.injEq, List.not_mem_nil, or_false] at hmem
    obtain ⟨rfl, rfl⟩ | ⟨rfl, rfl⟩ | ⟨rfl, rfl⟩ | ⟨rfl, rfl⟩ | ⟨rfl, rfl⟩ | ⟨rfl, rfl⟩ | ⟨rfl, rfl⟩ | ⟨rfl, rfl⟩ |
      ⟨rfl, rfl⟩ | ⟨rfl, rfl⟩ := hmem <;> exact ⟨rfl, rfl⟩
  rw [step_read h hreg.1, hreg.2]
  rfl

/-- Settles O14: each field of the reset state is written out in its definition. -/
theorem resetStateHoldsTheListedValues : Obligations.ResetStateHoldsTheListedValues := by
  unfold Obligations.ResetStateHoldsTheListedValues
  decide

/-- Settles O15: the reset move does what the reset input does, in every phase. -/
theorem resetAbandonsCommandAndClosesHandle : Obligations.ResetAbandonsCommandAndClosesHandle := by
  unfold Obligations.ResetAbandonsCommandAndClosesHandle
  intro s rest h
  rw [step_of_move h, performMove]
  cases ho : s.hopen <;> simp [assertReset, dropMove, ho]

/-- Settles O55: the idle phase asks for no handle, no code and no sum, and an empty trace stands at `closed`. -/
theorem resetIsCoherent : Obligations.ResetIsCoherent := by
  unfold Obligations.ResetIsCoherent
  refine ⟨⟨by decide, rfl, by decide, by decide, trivial⟩, ⟨⟨.closed, rfl, rfl⟩, fun e he => ?_⟩, fun code hcode => ?_,
    fun i _ _ => trivial⟩
  · exact absurd he List.not_mem_nil
  · cases hcode

end Sys2Proof.Machine
end

section
/-! PROOFS. An engine step does not look at the operand registers or at OVR (R32, R33, R68): another content of them
goes through every operation of the sequencer unread. -/

namespace Sys2Proof.Machine

/-- `s` with the operand registers and OVR of `host`. -/
def withOperandsOf (host s : State) : State :=
  { s with
    argN := host.argN, argInt := host.argInt, argFpLo := host.argFpLo, argFpHi := host.argFpHi, ovr := host.ovr }

/-- A result whose next state is changed by `f`. -/
def mapNext (f : State → State) : Result → Result
  | .next t => .next (f t)
  | .fault r => .fault r
  | .refused r => .refused r

variable (host : State)

/-! ## The operations of the sequencer -/

theorem dropAnswer_withOperandsOf (s : State) :
    dropAnswer (withOperandsOf host s) = withOperandsOf host (dropAnswer s) := by
  unfold dropAnswer
  cases hs : s.env.script <;> simp [withOperandsOf, hs, setScript, bumpDraws]

theorem pollDecision_withOperandsOf (ready : Bool) (s : State) :
    pollDecision ready (withOperandsOf host s) = withOperandsOf host (pollDecision ready s) := by
  obtain ⟨hr, h⟩ | ⟨hr, ⟨l, hl, hle⟩, h⟩ | ⟨hr, hl, h⟩ := pollDecision_cases ready s <;> rw [h] <;> subst hr
  · rfl
  · simp [pollDecision, withOperandsOf, hl, hle, goto]
  · cases hlim : s.params.pollLimit with
    | none => simp [pollDecision, withOperandsOf, hlim, goto]
    | some l => simp [pollDecision, withOperandsOf, hlim, (hl l hlim).not_ge, goto]

theorem averageSample_withOperandsOf (v : Word) (s : State) :
    averageSample v (withOperandsOf host s) = withOperandsOf host (averageSample v s) := by
  unfold averageSample
  have hk : (accumulate v (withOperandsOf host s)).k = (accumulate v s).k := rfl
  have hn : countN (accumulate v (withOperandsOf host s)) = countN (accumulate v s) := rfl
  simp only [hk, hn, apply_ite (withOperandsOf host)]
  rfl

theorem fpUsed_withOperandsOf (r : Option DWord) (s : State) :
    fpUsed r (withOperandsOf host s) = withOperandsOf host (fpUsed r s) := by
  cases r <;> rfl

theorem fpBits_withOperandsOf (r : Option DWord) (s : State) : fpBits r (withOperandsOf host s) = fpBits r s := by
  cases r <;> rfl

/-! ## The parts of a plan -/

/-- A plan that does not look at the operand registers or at OVR. -/
structure PlanBlind (c : Plan) : Prop where
  check : ∀ s, c.check (withOperandsOf host s) = c.check s
  start : ∀ s, c.start (withOperandsOf host s) = withOperandsOf host (c.start s)
  probed : ∀ ready s, c.probed ready (withOperandsOf host s) = withOperandsOf host (c.probed ready s)
  sampled : ∀ v s, c.sampled v (withOperandsOf host s) = withOperandsOf host (c.sampled v s)
  effect : ∀ s, c.effect (withOperandsOf host s) = withOperandsOf host (c.effect s)

theorem averagePlan_blind {check : State → ErrCode} {effect : State → State}
    (hcheck : ∀ s, check (withOperandsOf host s) = check s)
    (heffect : ∀ s, effect (withOperandsOf host s) = withOperandsOf host (effect s)) :
    PlanBlind host (averagePlan check effect) :=
  ⟨hcheck, fun _ => rfl, pollDecision_withOperandsOf host, averageSample_withOperandsOf host, heffect⟩

theorem planOf_blind (i : Instr) : PlanBlind host (planOf i) := by
  cases i with
  | nop | init | setGain | setOffset | setScale | getOffset | isReady | close =>
    exact ⟨fun _ => rfl, fun _ => rfl, fun _ _ => rfl, fun _ _ => rfl, fun _ => rfl⟩
  | readOne => exact ⟨fun _ => rfl, fun _ => rfl, pollDecision_withOperandsOf host, fun _ _ => rfl, fun _ => rfl⟩
  | readAvg | tare => exact averagePlan_blind host (fun _ => rfl) fun _ => rfl
  | getUnits =>
    refine averagePlan_blind host (fun _ => rfl) fun s => ?_
    have hq : unitsQuotient (withOperandsOf host s) = unitsQuotient s := rfl
    rw [hq, fpBits_withOperandsOf, fpUsed_withOperandsOf]
    rfl
  | calibrate =>
    refine averagePlan_blind host (fun _ => rfl) fun s => ?_
    have hq : scaleQuotient (withOperandsOf host s) = scaleQuotient s := rfl
    rw [hq, fpBits_withOperandsOf, fpUsed_withOperandsOf]
    rfl

theorem checkStep_withOperandsOf {c : Plan} (hc : PlanBlind host c) (s : State) :
    checkStep c (withOperandsOf host s) = withOperandsOf host (checkStep c s) := by
  have hcheck := hc.check s
  by_cases h : c.check s = .none
  · cases hcycles : c.cycles with
    | nil => rw [checkStep_accessor h hcycles, checkStep_accessor (hcheck.trans h) hcycles]; rfl
    | cons p ps =>
      rw [checkStep_cycle h hcycles, checkStep_cycle (hcheck.trans h) hcycles, hc.start]
      rfl
  · rw [checkStep_error h, checkStep_error (hcheck ▸ h), hcheck]
    rfl

theorem sampleReceived_withOperandsOf {c : Plan} (hc : PlanBlind host c) (r : Response) (s : State) :
    sampleReceived c r (withOperandsOf host s) = withOperandsOf host (sampleReceived c r s) := by
  unfold sampleReceived
  cases validResponse r with
  | false => rfl
  | true => exact hc.sampled _ (writeRaw r s)

theorem finishStep_withOperandsOf {c : Plan} (hc : PlanBlind host c) (code : ErrCode) (s : State) :
    finishStep c.effect code (withOperandsOf host s) = withOperandsOf host (finishStep c.effect code s) := by
  by_cases h : code = .none
  · rw [h, finishStep_ok, finishStep_ok, hc.effect]
    rfl
  · rw [finishStep_error h, finishStep_error h]
    rfl

/-! ## Bus transactions -/

theorem busOpen_withOperandsOf (p : Purpose) (s : State) :
    busOpen p (withOperandsOf host s) = mapNext (withOperandsOf host) (busOpen p s) := by
  have hopen : (withOperandsOf host s).hopen = s.hopen := rfl
  have hanswer : nextAnswer (withOperandsOf host s) = nextAnswer s := rfl
  unfold busOpen
  rw [hopen, hanswer, dropAnswer_withOperandsOf]
  cases s.hopen <;> cases nextAnswer s <;> rfl

theorem busConfigure_withOperandsOf (p : Purpose) (s : State) :
    busConfigure p (withOperandsOf host s) = mapNext (withOperandsOf host) (busConfigure p s) := by
  have hopen : (withOperandsOf host s).hopen = s.hopen := rfl
  have hanswer : nextAnswer (withOperandsOf host s) = nextAnswer s := rfl
  unfold busConfigure
  rw [hopen, hanswer, dropAnswer_withOperandsOf]
  cases s.hopen <;> cases nextAnswer s <;> cases p <;> rfl

theorem busTransfer_withOperandsOf (p : Purpose) (tx : List Byte) {f : Response → State → State}
    (hf : ∀ r s, f r (withOperandsOf host s) = withOperandsOf host (f r s)) (s : State) :
    busTransfer p tx f (withOperandsOf host s) = mapNext (withOperandsOf host) (busTransfer p tx f s) := by
  have hopen : (withOperandsOf host s).hopen = s.hopen := rfl
  have hanswer : nextAnswer (withOperandsOf host s) = nextAnswer s := rfl
  unfold busTransfer
  rw [hopen, hanswer, dropAnswer_withOperandsOf]
  cases s.hopen with
  | false => rfl
  | true =>
    cases nextAnswer s with
    | pending | fail => rfl
    | ok rx => exact congrArg Host.Outcome.next (hf rx (logBus _ (dropAnswer s)))

theorem busClose_withOperandsOf (after : After) (s : State) :
    busClose after (withOperandsOf host s) = mapNext (withOperandsOf host) (busClose after s) := by
  have hopen : (withOperandsOf host s).hopen = s.hopen := rfl
  unfold busClose
  rw [hopen]
  cases s.hopen <;> rfl

/-! ## The step -/

theorem transferStep_withOperandsOf {c : Plan} (hc : PlanBlind host c) (p : Purpose) (s : State) :
    transferStep c p (withOperandsOf host s) = mapNext (withOperandsOf host) (transferStep c p s) := by
  cases p with
  | trial => rfl
  | probe =>
    exact busTransfer_withOperandsOf host .probe (probeTx s) (f := fun r t => c.probed (probeReady r t) t)
      (fun r t => hc.probed (probeReady r t) t) s
  | sample => exact busTransfer_withOperandsOf host .sample (sampleTx s) (sampleReceived_withOperandsOf host hc) s

theorem runPlan_withOperandsOf {c : Plan} (hc : PlanBlind host c) (s : State) :
    runPlan c (withOperandsOf host s) = mapNext (withOperandsOf host) (runPlan c s) := by
  have hphase : (withOperandsOf host s).phase = s.phase := rfl
  unfold runPlan
  rw [hphase]
  cases s.phase with
  | idle => rfl
  | check => exact congrArg Host.Outcome.next (checkStep_withOperandsOf host hc s)
  | opening p => simp only [apply_ite (mapNext _), busOpen_withOperandsOf]; rfl
  | config p => simp only [apply_ite (mapNext _), busConfigure_withOperandsOf]; rfl
  | xfer p => simp only [apply_ite (mapNext _), transferStep_withOperandsOf host hc]; rfl
  | closing p after => simp only [apply_ite (mapNext _), busClose_withOperandsOf]; rfl
  | finish code => exact congrArg Host.Outcome.next (finishStep_withOperandsOf host hc code s)

theorem exec_withOperandsOf (i : Instr) (s : State) :
    exec i (withOperandsOf host s) = mapNext (withOperandsOf host) (exec i s) := by
  rw [exec_eq_runPlan, exec_eq_runPlan, runPlan_withOperandsOf host (planOf_blind host i)]

/-! ## The statement -/

/-- Settles O54. -/
theorem runningCommandIgnoresHostRegisters : Obligations.RunningCommandIgnoresHostRegisters := by
  unfold Obligations.RunningCommandIgnoresHostRegisters
  intro i s t n a lo hi o h
  have hstep := exec_withOperandsOf { s with argN := n, argInt := a, argFpLo := lo, argFpHi := hi, ovr := o } i s
  rw [h] at hstep
  exact hstep

end Sys2Proof.Machine
end

section
/-! PROOFS. Single engine steps: which command's step an engine step is (R41, R243), the completion (R241, R242), the
open of a bus cycle (R71), the receipt of a sample (R152 to R154), and GET_UNITS's result (R184, R191). -/

namespace Sys2Proof.Machine

/-! ## The decoded command -/

theorem engineStep_of_decode {s : State} {i : Instr} (h : decode s.cmdL = .command i) : engineStep s = exec i s := by
  rw [engineStep, h]

theorem tableWord_32 (w : Nat) : tableWord 32 w = BitVec.ofNat 32 w :=
  BitVec.eq_of_toNat_eq (by simp [tableWord])

theorem wordOfBytes_extract (v : Word) :
    wordOfBytes (v.extractLsb' 0 8) (v.extractLsb' 8 8) (v.extractLsb' 16 8) (v.extractLsb' 24 8) = v := by
  unfold wordOfBytes
  rw [BitVec.extractLsb'_append_extractLsb'_eq_extractLsb' (by rfl),
    BitVec.extractLsb'_append_extractLsb'_eq_extractLsb' (by rfl),
    BitVec.extractLsb'_append_extractLsb'_eq_extractLsb' (by rfl)]
  exact BitVec.extractLsb'_eq_self

/-- The table's decoder is `decode` of the table's word. -/
theorem decode_of_decodeTableWord {w : Nat} {i : Instr} (h : decodeTableWord 32 w = some i) :
    decode (BitVec.ofNat 32 w) = .command i := by
  simp only [decodeTableWord, decodeBytes, wordOfBytes_extract, tableWord_32] at h
  cases hd : decode (BitVec.ofNat 32 w) with
  | command j =>
    rw [hd] at h
    cases h
    rfl
  | illegal why =>
    rw [hd] at h
    cases h

theorem fetchWord_of_silent {s : State} (h : s.env.sched = []) (v : Word) : fetchWord v s = acceptCommand v s := by
  simp [fetchWord, h]

theorem fetchWord_of_moves {s : State} {m : HostMove} {rest : List HostMove} (h : s.env.sched = m :: rest) (v : Word) :
    fetchWord v s = dropMove (.engine :: s.env.sched) (acceptCommand v s) := by
  simp [fetchWord, dropMove, h]

/-- Where the host has moves to come, the engine's step put before them is taken off again. -/
theorem step_fetchWord (v : Word) (s : State) : step (fetchWord v s) = engineStep (acceptCommand v s) := by
  cases h : s.env.sched with
  | nil =>
    rw [fetchWord_of_silent h]
    exact step_of_silent h
  | cons m rest =>
    rw [fetchWord_of_moves h]
    exact step_of_move (s := dropMove (.engine :: s.env.sched) (acceptCommand v s)) rfl

/-! ## The completion -/

theorem exec_finish {i : Instr} {s : State} {code : ErrCode} (hp : s.phase = .finish code) :
    exec i s = .next (finishStep (planOf i).effect code s) := by
  rw [exec_eq_runPlan, runPlan_finish hp]

/-- What of the bus and of STATUS a completion leaves. -/
theorem finishStep_bus {c : Plan} (hc : PlanFrame c) (code : ErrCode) (s : State) :
    (finishStep c.effect code s).hopen = s.hopen ∧ (finishStep c.effect code s).ovr = s.ovr ∧
      (finishStep c.effect code s).env.busLog = s.env.busLog ∧
      (finishStep c.effect code s).env.script = s.env.script := by
  by_cases hcode : code = .none
  · have hf := hc.effect s
    rw [hcode, finishStep_ok]
    exact ⟨(congrArg State.hopen hf :), (congrArg State.ovr hf :), (congrArg (·.env.busLog) hf :),
      (congrArg (·.env.script) hf :)⟩
  · rw [finishStep_error hcode]
    exact ⟨rfl, rfl, rfl, rfl⟩

/-! ## The words of a captured response -/

theorem raw0Of_eq (r : Response) :
    raw0Of r = r[3].setWidth 32 <<< 24 ||| r[2].setWidth 32 <<< 16 ||| r[1].setWidth 32 <<< 8 ||| r[0].setWidth 32 :=
  (BitVec.setWidth_eq _).symm.trans BitVec.setWidth_append_append_append_eq_shiftLeft_setWidth_or

theorem raw1Of_eq (r : Response) :
    raw1Of r = r[7].setWidth 32 <<< 24 ||| r[6].setWidth 32 <<< 16 ||| r[5].setWidth 32 <<< 8 ||| r[4].setWidth 32 :=
  (BitVec.setWidth_eq _).symm.trans BitVec.setWidth_append_append_append_eq_shiftLeft_setWidth_or

theorem raw2Of_eq (r : Response) : raw2Of r = r[9].setWidth 32 <<< 8 ||| r[8].setWidth 32 := by
  have h := (BitVec.setWidth_eq (raw2Of r)).symm.trans BitVec.setWidth_append_append_eq_shiftLeft_setWidth_or
  rwa [BitVec.setWidth_zero, BitVec.zero_shiftLeft, BitVec.zero_or] at h

theorem not_validResponse {r : Response}
    (h : r[0] = 0#8 ∧ r[1] = 0#8 ∧ r[2] = 0#8 ∧ r[3] = 0#8 ∧ r[4] = 0#8 ∧ r[5] = 0#8 ∧ r[6] = 0#8 ∨
      r[7] ≠ 0#8 ∨ r[8] ≠ 0#8 ∨ r[9] ≠ 0#8) : validResponse r = false := by
  unfold validResponse
  obtain ⟨h0, h1, h2, h3, h4, h5, h6⟩ | h | h | h := h
  · simp [h0, h1, h2, h3, h4, h5, h6]
  all_goals simp [h]

/-- The step that receives a sample transfer's answer. -/
theorem exec_sample {i : Instr} {s : State} {r : Response} {rest : List BusAnswer}
    (hi : i = .readOne ∨ isAveraging i = true) (hp : s.phase = .xfer .sample) (ho : s.hopen = true)
    (h : s.env.script = .ok r :: rest) :
    exec i s = .next (sampleReceived (planOf i) r (receivedState (sampleTx s) r rest s)) := by
  have hm : .sample ∈ (planOf i).cycles := by simp [(reading_plan hi).1]
  rw [exec_eq_runPlan, runPlan_sample hp hm, busTransfer_ok ho h]
  rfl

/-! ## NaN results -/

/-- The exponent field is all ones, and the fraction is not 0: where it was drawn 0 it stands for 1. -/
theorem f64IsNan_nanBits (neg : Bool) (frac : BitVec 52) : f64IsNan (nanBits neg frac) = true := by
  have hne : (if frac = 0#52 then 1#52 else frac) ≠ 0#52 := by
    split
    · decide
    · assumption
  unfold nanBits
  generalize (if frac = 0#52 then 1#52 else frac) = f at hne
  have hexp : f64Exp (BitVec.ofBool neg ++ (0x7FF#11 ++ f)) = 2047 := by
    rw [f64Exp, BitVec.extractLsb'_append_eq_of_add_le (by decide), BitVec.extractLsb'_append_eq_left]
    rfl
  have hfrac : f64Frac (BitVec.ofBool neg ++ (0x7FF#11 ++ f)) = f.toNat := by
    rw [f64Frac, BitVec.extractLsb'_append_eq_of_add_le (by decide), BitVec.extractLsb'_append_eq_right]
  have hpos : f.toNat ≠ 0 := fun h => hne (BitVec.eq_of_toNat_eq h)
  simp [f64IsNan, hexp, hfrac, hpos]

/-! ## The statements -/

/-- Settles O5. -/
theorem stepRunsDecodedCommand : Obligations.StepRunsDecodedCommand := by
  unfold Obligations.StepRunsDecodedCommand
  refine ⟨fun s i hd hs => ?_, fun s i rest hd hs => ?_, fun s w i hd => ?_⟩
  · rw [step_of_silent hs, engineStep_of_decode hd]
  · rw [step_of_move hs]
    exact engineStep_of_decode (s := dropMove rest s) hd
  · rw [State.withFetchWord, step_fetchWord, tableWord_32]
    exact engineStep_of_decode (s := acceptCommand (BitVec.ofNat 32 w) s) (decode_of_decodeTableWord hd)

/-- Settles O17: the completion writes STATUS and PHASE, and no effect reaches the bus. -/
theorem finishStepCompletes : Obligations.FinishStepCompletes := by
  unfold Obligations.FinishStepCompletes
  intro s code hs hp hsched
  obtain ⟨hopen, hovr, hlog, hscript⟩ := finishStep_bus (runningPlan_frame s) code s
  exact ⟨_, step_finish hsched hp, rfl, rfl, rfl, rfl, hopen.trans (hs.hopen_at hp), hovr, hlog, hscript⟩

/-- Settles O18: with an error the completion has no effect. -/
theorem errorCompletionWritesOnlyItsCode : Obligations.ErrorCompletionWritesOnlyItsCode := by
  unfold Obligations.ErrorCompletionWritesOnlyItsCode
  intro i s code hcode hp
  rw [exec_finish hp, finishStep_error hcode]
  rfl

/-- Settles O23, answer by answer. -/
theorem busOpenFollowsItsAnswer : Obligations.BusOpenFollowsItsAnswer := by
  unfold Obligations.BusOpenFollowsItsAnswer
  intro s p a rest hs hp hsched hscript
  have hopen : s.hopen = false := hs.hopen_at hp
  have hstep : step s = busOpen p s := by rw [step_of_plan hsched, runPlan_opening hp (hs.at_opening hp).1]
  rw [hstep]
  refine ⟨hopen, ?_, ?_, ?_⟩
  · rintro rfl
    rw [busOpen_pending hopen hscript]
    rfl
  · rintro rfl
    rw [busOpen_fail hopen hscript]
    rfl
  · rintro rx rfl
    rw [busOpen_ok hopen hscript]
    rfl

/-- Settles O31: what a command does with a valid sample keeps RAW, and an invalid response leads to the close. -/
theorem sampleTransferCapturesThenValidates : Obligations.SampleTransferCapturesThenValidates := by
  unfold Obligations.SampleTransferCapturesThenValidates
  intro i s r rest hi hp ho h
  rw [exec_sample hi hp ho h, ← raw0Of_eq, ← raw1Of_eq, ← raw2Of_eq]
  refine ⟨⟨_, rfl, ?_⟩, fun hinvalid => ?_⟩
  · have hf := sequencerBlanked_sampleReceived (planOf_frame i) r (receivedState (sampleTx s) r rest s)
    exact ⟨(congrArg State.raw0 hf :), (congrArg State.raw1 hf :), (congrArg State.raw2 hf :)⟩
  · rw [sampleReceived, if_neg (by simp [not_validResponse hinvalid])]
    simp [receivedState, goto, writeRaw, logBus, setScript, sampleTx, gainSeq_length]

/-- Settles O38: a quotient is written as it is, a NaN by a drawn NaN encoding. -/
theorem getUnitsWritesQuotient : Obligations.GetUnitsWritesQuotient := by
  unfold Obligations.GetUnitsWritesQuotient
  intro s hp
  refine ⟨fpBits (unitsQuotient s) s, (fpUsed (unitsQuotient s) s).env.draws, fun q hq => ?_, fun hq => ?_, ?_⟩
  · have hu : unitsQuotient s = some q := hq
    rw [hu]
    exact ⟨rfl, rfl⟩
  · have hu : unitsQuotient s = none := hq
    rw [hu]
    exact f64IsNan_nanBits _ _
  · rw [exec_finish hp, finishStep_ok]
    cases hu : unitsQuotient s <;> simp [planOf, planGetUnits, averagePlan, hu] <;> rfl

end Sys2Proof.Machine
end

section
/-! PROOFS. The command words: a word is its three fields (R91), and the decoder of R97 answers a command exactly where
the fields are the command's (R90, R92). -/

namespace Sys2Proof.Machine

/-! ## Fields -/

/-- The three fields of a word say what it is (R91). -/
theorem eq_append_iff_fields (w : Word) (rsv : BitVec 22) (g : BitVec 2) (opc : BitVec 8) :
    w = rsv ++ g ++ opc ↔ rsvOf w = rsv ∧ gOf w = g ∧ opcOf w = opc := by
  constructor
  · rintro rfl
    refine ⟨?_, ?_, ?_⟩
    · rw [rsvOf, BitVec.append_assoc]
      exact BitVec.extractLsb'_append_eq_left
    · rw [gOf, BitVec.extractLsb'_append_eq_of_le (by decide)]
      exact BitVec.extractLsb'_append_eq_right
    · exact BitVec.extractLsb'_append_eq_right
  · rintro ⟨rfl, rfl, rfl⟩
    unfold rsvOf gOf opcOf
    rw [BitVec.extractLsb'_append_extractLsb'_eq_extractLsb' (by rfl),
      BitVec.extractLsb'_append_extractLsb'_eq_extractLsb' (by rfl)]
    exact BitVec.extractLsb'_eq_self.symm

theorem eq_encode_iff_fields (w : Word) (i : Instr) :
    w = encode i ↔ rsvOf w = 0#22 ∧ gOf w = gainFieldOf i ∧ opcOf w = opcodeOf i :=
  eq_append_iff_fields w 0#22 (gainFieldOf i) (opcodeOf i)

/-! ## The decoder -/

/-- What `decodeOpc` answers has the opcode it was given, and no gain field. -/
theorem fields_of_decodeOpc {opc : BitVec 8} {i : Instr} (h : decodeOpc opc = .command i) :
    gainFieldOf i = 0#2 ∧ opc = opcodeOf i := by
  unfold decodeOpc at h
  repeat' split at h
  all_goals cases h
  all_goals exact ⟨rfl, by assumption⟩

theorem fields_of_decode {w : Word} {i : Instr} (h : decode w = .command i) :
    rsvOf w = 0#22 ∧ gOf w = gainFieldOf i ∧ opcOf w = opcodeOf i := by
  unfold decode at h
  split_ifs at h with hrsv hinit hset hgain
  · cases h
    exact ⟨not_not.mp hrsv, rfl, hinit⟩
  · cases h
    exact ⟨not_not.mp hrsv, rfl, hset⟩
  · obtain ⟨hfield, hopc⟩ := fields_of_decodeOpc h
    exact ⟨not_not.mp hrsv, (not_not.mp hgain).trans hfield.symm, hopc⟩

theorem decode_of_fields {w : Word} {i : Instr} (hrsv : rsvOf w = 0#22) (hgain : gOf w = gainFieldOf i)
    (hopc : opcOf w = opcodeOf i) : decode w = .command i := by
  unfold decode
  rw [hrsv, hgain, hopc]
  cases i <;> rfl

theorem decode_encode (i : Instr) : decode (encode i) = .command i := by
  obtain ⟨hrsv, hgain, hopc⟩ := (eq_encode_iff_fields (encode i) i).mp rfl
  exact decode_of_fields hrsv hgain hopc

/-! ## The statement -/

/-- Settles O1: word and command have the same three fields, and the word's bytes make up the word. -/
theorem decodeInvertsEncode : Obligations.DecodeInvertsEncode := by
  unfold Obligations.DecodeInvertsEncode
  refine ⟨fun w i => ⟨fun h => (eq_encode_iff_fields w i).mpr (fields_of_decode h), ?_⟩, fun i => ?_⟩
  · rintro rfl
    exact decode_encode i
  · rw [encodeBytes, decodeBytes, wordOfBytes_extract, decode_encode]

end Sys2Proof.Machine
end

section
/-! PROOFS. The bus port (R70 to R74): with HOPEN as R71 to R74 ask for, each transaction has a next state, and from a
coherent state a step is the transaction its phase names. Hence the transactions' statements, and that no coherent
state faults. -/

namespace Sys2Proof.Machine

/-! ## What a plan's parts leave of the environment -/

theorem pollDecision_env (ready : Bool) (s : State) : (pollDecision ready s).env = s.env := by
  obtain ⟨-, h⟩ | ⟨-, -, h⟩ | ⟨-, -, h⟩ := pollDecision_cases ready s <;> rw [h] <;> rfl

theorem averageSample_env (v : Word) (s : State) : (averageSample v s).env = s.env := by
  obtain ⟨-, h⟩ | ⟨-, h⟩ := averageSample_cases v s <;> rw [h] <;> rfl

/-- The parts of a plan before FINISH do not touch the environment: only the transactions do. -/
structure PlanKeepsEnv (c : Plan) : Prop where
  start : ∀ s, (c.start s).env = s.env
  probed : ∀ ready s, (c.probed ready s).env = s.env
  sampled : ∀ v s, (c.sampled v s).env = s.env

theorem planOf_keepsEnv (i : Instr) : PlanKeepsEnv (planOf i) := by
  cases i with
  | nop | init | setGain | setOffset | setScale | getOffset | isReady | close =>
    exact ⟨fun _ => rfl, fun _ _ => rfl, fun _ _ => rfl⟩
  | readOne => exact ⟨fun _ => rfl, pollDecision_env, fun _ _ => rfl⟩
  | readAvg | getUnits | tare | calibrate => exact ⟨fun _ => rfl, pollDecision_env, averageSample_env⟩

theorem runningPlan_keepsEnv (s : State) : PlanKeepsEnv (runningPlan s) := by
  obtain ⟨i, -, h⟩ | ⟨-, -, h⟩ := runningPlan_cases s <;> rw [h]
  · exact planOf_keepsEnv i
  · exact ⟨fun _ => rfl, fun _ _ => rfl, fun _ _ => rfl⟩

theorem sampleReceived_env {c : Plan} (hc : PlanKeepsEnv c) (r : Response) (s : State) :
    (sampleReceived c r s).env = s.env := by
  obtain ⟨-, h⟩ | ⟨-, h⟩ := sampleReceived_cases c r s <;> rw [h]
  · exact hc.sampled _ (writeRaw r s)
  · rfl

/-! ## The transfer of a cycle -/

/-- What the transfer of a cycle for `p` sends (R129, R152); a trial cycle has none (R124). -/
def transferTx (p : Purpose) (s : State) : List Byte :=
  match p with
  | .trial => []
  | .probe => probeTx s
  | .sample => sampleTx s

/-- The step that receives its answer. -/
def transferReceived (c : Plan) (p : Purpose) (r : Response) (s : State) : State :=
  match p with
  | .trial => s
  | .probe => c.probed (probeReady r s) s
  | .sample => sampleReceived c r s

theorem transferStep_eq {p : Purpose} (hp : p ≠ .trial) (c : Plan) (s : State) :
    transferStep c p s = busTransfer p (transferTx p s) (transferReceived c p) s := by
  cases p with
  | trial => exact absurd rfl hp
  | probe | sample => rfl

theorem runPlan_xfer {c : Plan} {s : State} {p : Purpose} (hp : s.phase = .xfer p) (hm : p ∈ c.cycles)
    (hn : p ≠ .trial) : runPlan c s = busTransfer p (transferTx p s) (transferReceived c p) s := by
  simp [runPlan, hp, hm, transferStep_eq hn]

theorem transferReceived_closes {c : Plan} (hc : PlanSound c) {p : Purpose} (hm : p ∈ c.cycles) (hn : p ≠ .trial)
    (r : Response) (s : State) : ClosesCycle c p s (transferReceived c p r s) := by
  cases p with
  | trial => exact absurd rfl hn
  | probe => exact hc.probed hm _ s
  | sample => exact sampleReceived_closes hc hm r s

theorem transferReceived_env {c : Plan} (hc : PlanKeepsEnv c) (p : Purpose) (r : Response) (s : State) :
    (transferReceived c p r s).env = s.env := by
  cases p with
  | trial => rfl
  | probe => exact hc.probed _ s
  | sample => exact sampleReceived_env hc r s

theorem transferTx_length_le (p : Purpose) (s : State) : (transferTx p s).length ≤ 10 := by
  cases p with
  | trial => exact Nat.zero_le 10
  | probe => exact (probeTx_length s).trans_le (probeLen_le s)
  | sample => exact (sampleTx_length s).le

/-- A response is long enough for every transfer: as many bytes are received as are sent (R73, R77). -/
theorem received_length {n : Nat} (hn : n ≤ 10) (r : Response) : (r.toList.take n).length = n := by
  simpa using hn

/-! ## Transactions go on where HOPEN is as they need it -/

theorem busOpen_goes {s : State} (ho : s.hopen = false) (p : Purpose) : ∃ t, busOpen p s = .next t := by
  unfold busOpen
  cases nextAnswer s <;> simp [ho]

theorem busConfigure_goes {s : State} (ho : s.hopen = true) (p : Purpose) : ∃ t, busConfigure p s = .next t := by
  unfold busConfigure
  cases nextAnswer s <;> simp [ho]

theorem busTransfer_goes {s : State} (ho : s.hopen = true) (p : Purpose) (tx : List Byte)
    (f : Response → State → State) : ∃ t, busTransfer p tx f s = .next t := by
  unfold busTransfer
  cases nextAnswer s <;> simp [ho]

/-! ## A coherent state's step -/

section
variable {s : State} (hs : Coherent s)
include hs

theorem Coherent.at_closing {p : Purpose} {after : After} (hp : s.phase = .closing p after) :
    p ∈ (runningPlan s).cycles := by
  cases after with
  | again q => exact (hs.at_closing_again hp).1
  | ends code => exact (hs.at_closing_ends hp).1

/-- The engine step of a coherent state is never a misuse of the handle or a stray phase. -/
theorem Coherent.runPlan_goes : ∃ t, runPlan (runningPlan s) s = .next t := by
  cases hp : s.phase with
  | idle => exact ⟨s, by simp [runPlan, hp]⟩
  | check => exact ⟨_, runPlan_check hp⟩
  | opening p =>
    rw [runPlan_opening hp (hs.at_opening hp).1]
    exact busOpen_goes (hs.hopen_at hp) p
  | config p =>
    rw [runPlan_config hp (hs.at_config hp).1]
    exact busConfigure_goes (hs.hopen_at hp) p
  | xfer p =>
    obtain ⟨hm, hn, -⟩ := hs.at_xfer hp
    rw [runPlan_xfer hp hm hn]
    exact busTransfer_goes (hs.hopen_at hp) ..
  | closing p after => exact ⟨_, (runPlan_closing hp (hs.at_closing hp)).trans (busClose_ok (hs.hopen_at hp))⟩
  | finish code => exact ⟨_, runPlan_finish hp⟩

theorem Coherent.engineStep_goes : ∃ t, engineStep s = .next t :=
  engineStep_eq_runPlan s ▸ hs.runPlan_goes

end

/-! ## The statements -/

/-- Settles O24, answer by answer. -/
theorem busConfigureFollowsItsAnswer : Obligations.BusConfigureFollowsItsAnswer := by
  unfold Obligations.BusConfigureFollowsItsAnswer
  intro s p a rest hs hp hsched hscript
  have hopen : s.hopen = true := hs.hopen_at hp
  have hstep : step s = busConfigure p s := by rw [step_of_plan hsched, runPlan_config hp (hs.at_config hp).1]
  rw [hstep]
  refine ⟨hopen, ?_, ?_, ?_⟩
  · rintro rfl
    exact busConfigure_pending hopen hscript
  · rintro rfl
    exact busConfigure_fail hopen hscript
  · rintro rx rfl
    rw [busConfigure_ok hopen hscript]
    cases p <;> rfl

/-- Settles O25: what the receiving step does with the bytes is to close the cycle, and the record stays. -/
theorem busTransferFollowsItsAnswer : Obligations.BusTransferFollowsItsAnswer := by
  unfold Obligations.BusTransferFollowsItsAnswer
  intro s p a rest tx hs hp hsched hscript hprobe hsample
  obtain ⟨hm, hn, -⟩ := hs.at_xfer hp
  have hopen : s.hopen = true := hs.hopen_at hp
  have htx : tx = transferTx p s := by
    cases p with
    | trial => exact absurd rfl hn
    | probe => exact hprobe rfl
    | sample => exact hsample rfl
  have hstep : step s = busTransfer p tx (transferReceived (runningPlan s) p) s := by
    rw [step_of_plan hsched, runPlan_xfer hp hm hn, htx]
  rw [hstep]
  refine ⟨hopen, hn, ?_, ?_, ?_⟩
  · rintro rfl
    exact busTransfer_pending hopen hscript
  · rintro rfl
    exact busTransfer_fail hopen hscript
  · rintro rx rfl
    obtain ⟨hkeep, after, hphase, -⟩ :=
      transferReceived_closes (runningPlan_sound s) hm hn rx (receivedState tx rx rest s)
    have henv := transferReceived_env (runningPlan_keepsEnv s) p rx (receivedState tx rx rest s)
    exact ⟨_, rx.toList.take tx.length, after, busTransfer_ok hopen hscript,
      received_length (htx ▸ transferTx_length_le p s) rx, ⟨_, List.take_append_drop ..⟩, hphase, hkeep.trans hopen, henv⟩

/-- Settles O26. -/
theorem busCloseAlwaysCompletes : Obligations.BusCloseAlwaysCompletes := by
  unfold Obligations.BusCloseAlwaysCompletes
  intro s p after hs hp hsched
  have hopen : s.hopen = true := hs.hopen_at hp
  refine ⟨hopen, ?_⟩
  rw [step_closing hsched hp (hs.at_closing hp) hopen, closedState_eq]
  cases after <;> rfl

/-- Settles O60: an engine step goes on, and of the host's moves only an access can stop. -/
theorem coherentStatesNeverFault : Obligations.CoherentStatesNeverFault := by
  unfold Obligations.CoherentStatesNeverFault
  intro s hs
  obtain ⟨hsched, hstep⟩ | ⟨m, rest, hsched, hstep⟩ := step_cases s
  · exact .inl (hstep ▸ hs.engineStep_goes)
  cases m with
  | engine =>
    have hgoes := (hs.of_hostBlanked (t := dropMove rest s) rfl).engineStep_goes
    exact .inl (hstep ▸ hgoes)
  | wait gaps => exact .inl ⟨_, hstep⟩
  | reset => exact .inl ⟨_, hstep⟩
  | read off bytes =>
    cases hd : definedAccess off bytes with
    | true =>
      obtain ⟨rfl, -, -⟩ := (definedAccess_iff off bytes).mp hd
      exact .inl ⟨_, step_read hsched hd⟩
    | false =>
      exact .inr ⟨off, bytes, rest, .inl hsched, by simp [← definedAccess_iff, hd],
        step_undefinedAccess (v := 0) hd (.inl hsched)⟩
  | write off bytes v =>
    cases hd : definedAccess off bytes with
    | true =>
      obtain ⟨rfl, -, -⟩ := (definedAccess_iff off bytes).mp hd
      exact .inl ⟨_, step_write hsched hd⟩
    | false =>
      exact .inr ⟨off, bytes, rest, .inr ⟨v, hsched⟩, by simp [← definedAccess_iff, hd],
        step_undefinedAccess hd (.inr hsched)⟩

end Sys2Proof.Machine
end

section
/-! PROOFS. The bus trace stays legal (R71 to R77, R120 to R124): without a handle it stands at `closed`, inside a cycle
it can always be closed, and each transaction takes it on to where the next phase has it. -/

namespace Sys2Proof.Machine

/-! ## Phases and points of the trace -/

/-- A phase without a handle belongs to the trace's end alone. -/
theorem posFits_of_no_handle {ph : Phase} (h : holdsHandle ph = false) (pos : BusPos) :
    PosFits ph pos ↔ pos = .closed := by
  cases ph with
  | idle | check | opening | finish => exact Iff.rfl
  | config | xfer | closing => cases h

/-- Where a phase has a handle, the trace may go on with a close (R74, R121). -/
theorem busMove_closed_of_handle {ph : Phase} {pos : BusPos} (h : holdsHandle ph = true) (hpos : PosFits ph pos) :
    busMove pos .closed = some .closed := by
  cases ph with
  | idle | check | opening | finish => cases h
  | config p => rw [show pos = .opened from hpos]; rfl
  | xfer p => rw [show pos = .ready from hpos]; rfl
  | closing p after => obtain rfl | ⟨-, rfl⟩ := hpos <;> rfl

theorem holdsHandle_phaseAfter (after : After) : holdsHandle (phaseAfter after) = false := by
  cases after <;> rfl

/-- After a successful configuration the handle may be transferred over, or, in a trial cycle, closed (R124). -/
theorem posFits_afterConfig (p : Purpose) (s : State) : PosFits (afterConfig p s).phase .ready := by
  cases p with
  | trial => exact .inr ⟨rfl, rfl⟩
  | probe | sample => exact rfl

theorem afterConfig_env (p : Purpose) (s : State) : (afterConfig p s).env = s.env := by
  cases p <;> rfl

/-! ## What the engine sends -/

theorem sentBytes_transferTx {p : Purpose} {s : State} (hp : p ≠ .trial) (hg : s.gain ≠ 3#2) :
    SentBytes (transferTx p s) := by
  cases p with
  | trial => exact absurd rfl hp
  | probe =>
    show SentBytes (List.replicate (probeLen s) 0#8)
    unfold probeLen
    split
    · exact .inl rfl
    · exact .inr (.inl rfl)
  | sample => exact .inr (.inr ⟨s.gain, hg, rfl⟩)

/-! ## The trace, unchanged or one transaction longer -/

section
variable {s t : State} (hs : TraceFits s)
include hs

/-- The trace of a phase without a handle is at its end. -/
theorem TraceFits.busPos_of_no_handle (h : holdsHandle s.phase = false) : busPos s.env.busLog = some .closed := by
  obtain ⟨⟨pos, hpos, hfit⟩, -⟩ := hs
  rw [hpos, (posFits_of_no_handle h pos).mp hfit]

theorem TraceFits.of_same_log (hlog : t.env.busLog = s.env.busLog) (hphase : t.phase = s.phase) : TraceFits t := by
  unfold TraceFits
  rw [hlog, hphase]
  exact hs

/-- Between phases without a handle nothing happens on the bus. -/
theorem TraceFits.of_no_handle (h : holdsHandle s.phase = false) (h' : holdsHandle t.phase = false)
    (hlog : t.env.busLog = s.env.busLog) : TraceFits t :=
  ⟨⟨.closed, hlog ▸ hs.busPos_of_no_handle h, (posFits_of_no_handle h' _).mpr rfl⟩, hlog ▸ hs.2⟩

/-- One transaction more: the rules allow it where the trace stands, and it leads to where the next phase has it. -/
theorem TraceFits.extend (e : BusEvent) (pos : BusPos) (hlog : t.env.busLog = e :: s.env.busLog) (he : EventFits e)
    (hmove : ∀ pos₀, PosFits s.phase pos₀ → busMove pos₀ e = some pos) (hfit : PosFits t.phase pos) : TraceFits t := by
  obtain ⟨⟨pos₀, hpos₀, hfit₀⟩, hevents⟩ := hs
  refine ⟨⟨pos, ?_, hfit⟩, ?_⟩
  · rw [hlog, busPos, hpos₀]
    exact hmove pos₀ hfit₀
  · rw [hlog]
    exact List.forall_mem_cons.mpr ⟨he, hevents⟩

theorem TraceFits.extend_from {pos₀ : BusPos} (hat : ∀ pos, PosFits s.phase pos → pos = pos₀) (e : BusEvent)
    (pos : BusPos) (hlog : t.env.busLog = e :: s.env.busLog) (he : EventFits e) (hmove : busMove pos₀ e = some pos)
    (hfit : PosFits t.phase pos) : TraceFits t :=
  hs.extend e pos hlog he (fun pos' hfit' => (hat pos' hfit').symm ▸ hmove) hfit

/-- A close out of a phase with a handle, into one without. -/
theorem TraceFits.close (h : holdsHandle s.phase = true) (h' : holdsHandle t.phase = false)
    (hlog : t.env.busLog = .closed :: s.env.busLog) : TraceFits t :=
  hs.extend .closed .closed hlog trivial (fun _ => busMove_closed_of_handle h) ((posFits_of_no_handle h' .closed).mpr rfl)

/-! ## Engine steps -/

theorem TraceFits.wait (ht : t = dropAnswer s) : TraceFits t :=
  hs.of_same_log (by simp [ht]) (by simp [ht])

theorem TraceFits.after_check {c : Plan} (hc : PlanKeepsEnv c) (hp : s.phase = .check) :
    TraceFits (checkStep c s) := by
  have h : holdsHandle s.phase = false := hp ▸ rfl
  by_cases hnone : c.check s = .none
  · cases hcycles : c.cycles with
    | nil =>
      rw [checkStep_accessor hnone hcycles]
      exact hs.of_no_handle h rfl rfl
    | cons p ps =>
      rw [checkStep_cycle hnone hcycles]
      exact hs.of_no_handle h rfl (congrArg Env.busLog (hc.start s) :)
  · rw [checkStep_error hnone]
    exact hs.of_no_handle h rfl rfl

theorem TraceFits.after_open {p : Purpose} (hp : s.phase = .opening p) (ho : busOpen p s = .next t) :
    TraceFits t := by
  have hclosed (pos : BusPos) (hfit : PosFits s.phase pos) : pos = .closed := by rwa [hp] at hfit
  obtain ⟨-, ⟨-, ht⟩ | ⟨-, rfl⟩ | ⟨rx, -, rfl⟩⟩ := busOpen_next ho
  · exact hs.wait ht
  · exact hs.extend_from hclosed (.opened Config.busId false) .closed (by simp) rfl rfl rfl
  · exact hs.extend_from hclosed (.opened Config.busId true) .opened (by simp) rfl rfl rfl

theorem TraceFits.after_configure {p : Purpose} (hp : s.phase = .config p) (ho : busConfigure p s = .next t) :
    TraceFits t := by
  have hopened (pos : BusPos) (hfit : PosFits s.phase pos) : pos = .opened := by rwa [hp] at hfit
  obtain ⟨-, ⟨-, ht⟩ | ⟨-, rfl⟩ | ⟨rx, -, rfl⟩⟩ := busConfigure_next ho
  · exact hs.wait ht
  · exact hs.extend_from hopened (configuredEvent false) .spent (by simp) ⟨rfl, rfl, rfl⟩ rfl (.inl rfl)
  · exact hs.extend_from hopened (configuredEvent true) .ready (by simp [afterConfig_env]) ⟨rfl, rfl, rfl⟩ rfl
      (posFits_afterConfig p _)

theorem TraceFits.after_transfer {p : Purpose} {tx : List Byte} {f : Response → State → State}
    (hp : s.phase = .xfer p) (ho : busTransfer p tx f s = .next t) (hsent : SentBytes tx) (hlen : tx.length ≤ 10)
    (henv : ∀ rx u, (f rx u).env = u.env) (hclose : ∀ rx u, ∃ after, (f rx u).phase = .closing p after) :
    TraceFits t := by
  have hready (pos : BusPos) (hfit : PosFits s.phase pos) : pos = .ready := by rwa [hp] at hfit
  obtain ⟨-, ⟨-, ht⟩ | ⟨-, rfl⟩ | ⟨rx, -, rfl⟩⟩ := busTransfer_next ho
  · exact hs.wait ht
  · exact hs.extend_from hready (.transferred tx tx.length none) .spent (by simp) ⟨hsent, rfl, nofun⟩ rfl
      (.inl rfl)
  · obtain ⟨after, hphase⟩ :=
      hclose rx (logBus (.transferred tx tx.length (some (rx.toList.take tx.length))) (dropAnswer s))
    refine hs.extend_from hready (.transferred tx tx.length (some (rx.toList.take tx.length))) .spent
      (by simp [henv]) ⟨hsent, rfl, ?_⟩ rfl (hphase ▸ .inl rfl)
    rintro bytes ⟨⟩
    exact received_length hlen rx

theorem TraceFits.after_close {p : Purpose} {after : After} (hp : s.phase = .closing p after)
    (ho : busClose after s = .next t) : TraceFits t := by
  obtain ⟨-, rfl⟩ := busClose_next ho
  exact hs.close (hp ▸ rfl) (holdsHandle_phaseAfter after) rfl

theorem TraceFits.after_finish {c : Plan} {code : ErrCode} (hc : PlanFrame c) (hp : s.phase = .finish code) :
    TraceFits (finishStep c.effect code s) := by
  obtain ⟨-, -, hlog, -⟩ := finishStep_bus hc code s
  exact hs.of_no_handle (hp ▸ rfl) rfl hlog

theorem TraceFits.after_runPlan (hcoh : Coherent s) (h : runPlan (runningPlan s) s = .next t) : TraceFits t := by
  have hsound := runningPlan_sound s
  have hkeeps := runningPlan_keepsEnv s
  have hxfer {p : Purpose} (hp : s.phase = .xfer p)
      (ho : busTransfer p (transferTx p s) (transferReceived (runningPlan s) p) s = .next t) : TraceFits t := by
    obtain ⟨hm, hn, -⟩ := hcoh.at_xfer hp
    exact hs.after_transfer hp ho (sentBytes_transferTx hn hcoh.gain_ne) (transferTx_length_le p s)
      (transferReceived_env hkeeps p) fun rx u => (transferReceived_closes hsound hm hn rx u).2.imp fun _ => And.left
  obtain ⟨-, rfl⟩ | ⟨hp, rfl⟩ | ⟨p, hp, -, ho⟩ | ⟨p, hp, -, ho⟩ | ⟨hp, -, ho⟩ | ⟨hp, -, ho⟩ | ⟨p, after, hp, -, ho⟩ |
    ⟨code, hp, rfl⟩ := runPlan_next h
  · exact hs
  · exact hs.after_check hkeeps hp
  · exact hs.after_open hp ho
  · exact hs.after_configure hp ho
  · exact hxfer hp ho
  · exact hxfer hp ho
  · exact hs.after_close hp ho
  · exact hs.after_finish (runningPlan_frame s) hp

/-! ## The host's moves -/

theorem TraceFits.of_hostBlanked (h : hostBlanked t = hostBlanked s) : TraceFits t :=
  hs.of_same_log (congrArg (·.env.busLog) h :) (congrArg State.phase h :)

theorem TraceFits.after_writeCmd (hcoh : Coherent s) (v : Word) : TraceFits (writeCmd v s) := by
  obtain ⟨-, h⟩ | ⟨hidle, h⟩ := writeCmd_cases v s <;> rw [h]
  · exact hs.of_same_log rfl rfl
  · have hphase : s.phase = .idle := by
      by_contra hne
      exact absurd (hcoh.busy_iff.mpr hne) (by simp [hidle])
    exact hs.of_no_handle (hphase ▸ rfl) rfl rfl

/-- Reset closes an open handle (R270). -/
theorem TraceFits.after_reset (hcoh : Coherent s) : TraceFits (assertReset s) := by
  have hopen := hcoh.hopen_eq
  cases ho : s.hopen with
  | false => exact hs.of_no_handle (hopen.symm.trans ho) rfl (by simp [assertReset, ho])
  | true => exact hs.close (hopen.symm.trans ho) rfl (by simp [assertReset, ho])

end

/-! ## The statement -/

/-- Settles O57, by the five kinds of step. -/
theorem stepKeepsBusTraceLegal : Obligations.StepKeepsBusTraceLegal := by
  unfold Obligations.StepKeepsBusTraceLegal
  intro s t hcoh hs h
  cases stepKind_of_step h with
  | engine u _ hu h => exact (hs.of_hostBlanked hu).after_runPlan (hcoh.of_hostBlanked hu) (engineStep_eq_runPlan u ▸ h)
  | reset rest _ h =>
    have hu : hostBlanked (dropMove rest s) = hostBlanked s := rfl
    exact h ▸ (hs.of_hostBlanked hu).after_reset (hcoh.of_hostBlanked hu)
  | command v rest u _ hu h => exact h ▸ (hs.of_hostBlanked hu).after_writeCmd (hcoh.of_hostBlanked hu) v
  | status v rest u _ hu h => exact h ▸ (hs.of_hostBlanked hu).of_same_log rfl rfl
  | host h => exact hs.of_hostBlanked h

end Sys2Proof.Machine
end

section
/-! PROOFS. The host window as the host sees it: which accesses have a meaning (R61, R64), and its bytes (R60, R62). -/

namespace Sys2Proof.Machine

/-! ## Bytes of the window -/

theorem windowByte_isSome (addr : Nat) (s : State) :
    (windowByte addr s).isSome = true ↔ Config.engineBase ≤ addr ∧ addr < Config.engineBase + 64 := by
  unfold windowByte
  split_ifs with h <;> simp [h]

/-- Byte `k` of the register at `off` (R62). -/
theorem windowByte_reg {off k : Nat} (hal : off % 4 = 0) (hoff : off ≤ 0x3C) (hk : k < 4) (s : State) :
    windowByte (Config.engineBase + off + k) s = some ((readReg (regAt off) s).extractLsb' (8 * k) 8) := by
  have hin : Config.engineBase ≤ Config.engineBase + off + k ∧
      Config.engineBase + off + k < Config.engineBase + 64 := by omega
  have hd : Config.engineBase + off + k - Config.engineBase = off + k := by omega
  have hreg : 4 * ((off + k) / 4) = off := by omega
  have hbyte : (off + k) % 4 = k := by omega
  simp only [windowByte, if_pos hin, hd, hreg, hbyte]

/-- Byte `k` of a 64-bit quantity, whose low half is at the lower offset (R62). -/
theorem windowByte_pair {off k : Nat} (hal : off % 4 = 0) (hoff : off + 4 ≤ 0x3C) (hk : k < 8) (s : State) :
    windowByte (Config.engineBase + off + k) s =
      some ((readReg (regAt (off + 4)) s ++ readReg (regAt off) s).extractLsb' (8 * k) 8) := by
  obtain hlo | ⟨j, rfl⟩ : k < 4 ∨ ∃ j, k = 4 + j := (Nat.lt_or_ge k 4).imp_right Nat.exists_eq_add_of_le
  · rw [windowByte_reg hal (by omega) hlo, BitVec.extractLsb'_append_eq_of_add_le (by omega)]
  · rw [← Nat.add_assoc, Nat.add_assoc _ off 4, windowByte_reg (by omega) hoff (by omega),
      BitVec.extractLsb'_append_eq_of_le (by omega), show 8 * (4 + j) - 32 = 8 * j by omega]

/-! ## The statements -/

/-- Settles O10: a defined read or write is a step, any other access is refused. -/
theorem onlyAlignedWordAccessesAreDefined : Obligations.OnlyAlignedWordAccessesAreDefined := by
  unfold Obligations.OnlyAlignedWordAccessesAreDefined
  intro s off bytes v rest
  rw [← definedAccess_iff]
  refine ⟨fun hd => ?_, fun hd => step_undefinedAccess (by simpa using hd)⟩
  obtain ⟨rfl, -, -⟩ := (definedAccess_iff off bytes).mp hd
  exact ⟨fun h => ⟨_, step_read h hd⟩, fun h => ⟨_, step_write h hd⟩⟩

/-- Settles O12: the registers at 0x14 and 0x24 are the high halves of those at 0x10 and 0x20. -/
theorem windowIsLittleEndian : Obligations.WindowIsLittleEndian := by
  unfold Obligations.WindowIsLittleEndian
  refine ⟨fun s off k hal hoff hk => windowByte_reg hal hoff hk s, fun s k hk => ⟨?_, ?_⟩,
    fun s addr => windowByte_isSome addr s⟩
  · exact windowByte_pair (off := 0x10) rfl (by decide) hk s
  · exact windowByte_pair (off := 0x20) rfl (by decide) hk s

end Sys2Proof.Machine
end

section
/-! PROOFS. INIT (R211): one trial cycle with no transfer (R124), step by step, and its completion. -/

namespace Sys2Proof.Machine

/-! ## Steps of a bus cycle that end it early -/

theorem step_openFailed {s : State} {p : Purpose} {rest : List BusAnswer} (hs : s.env.sched = [])
    (hp : s.phase = .opening p) (hm : p ∈ (runningPlan s).cycles) (ho : s.hopen = false)
    (h : s.env.script = .fail :: rest) :
    step s = .next (goto (.finish .busUnavailable) (logBus (.opened Config.busId false) (setScript rest s))) := by
  rw [step_of_plan hs, runPlan_opening hp hm, busOpen_fail ho h]

theorem step_configureFailed {s : State} {p : Purpose} {rest : List BusAnswer} (hs : s.env.sched = [])
    (hp : s.phase = .config p) (hm : p ∈ (runningPlan s).cycles) (ho : s.hopen = true)
    (h : s.env.script = .fail :: rest) :
    step s =
      .next (goto (.closing p (.ends .busUnavailable)) (logBus (configuredEvent false) (setScript rest s))) := by
  rw [step_of_plan hs, runPlan_config hp hm, busConfigure_fail ho h]

/-- A trial cycle goes from its configuration to its close (R124). -/
theorem step_trialConfigured {s : State} {r : Response} {rest : List BusAnswer} (hs : s.env.sched = [])
    (hp : s.phase = .config .trial) (hm : .trial ∈ (runningPlan s).cycles) (ho : s.hopen = true)
    (h : s.env.script = .ok r :: rest) :
    step s = .next (goto (.closing .trial (.ends .none)) (logBus (configuredEvent true) (setScript rest s))) := by
  rw [step_of_plan hs, runPlan_config hp hm, busConfigure_ok ho h]
  rfl

theorem errorFinish_run {s : State} {code : ErrCode} (hs : s.env.sched = []) (hp : s.phase = .finish code)
    (hcode : code ≠ .none) : runFor 1 s = .next (completed code s) := by
  rw [runFor_one (step_finish hs hp), finishStep_error hcode]

/-- The last close of a command and its completion (R74, R241). -/
theorem lastClose_run {s : State} {p : Purpose} {code : ErrCode} (hs : s.env.sched = [])
    (hp : s.phase = .closing p (.ends code)) (hm : p ∈ (runningPlan s).cycles) (ho : s.hopen = true) :
    runFor 2 s = .next (finishStep (runningPlan s).effect code
      (goto (.finish code) (setHandle false (logBus .closed s)))) := by
  rw [runFor_succ (step_closing hs hp hm ho)]
  exact runFor_one (step_finish hs rfl)

/-! ## INIT's trial cycle -/

/-- The running plan stays a command's as long as the latched word stays. -/
theorem runningPlan_of_latched {s t : State} {i : Instr} (hcmd : t.cmdL = s.cmdL) (hd : decode s.cmdL = .command i) :
    runningPlan t = planOf i := by
  rw [runningPlan, hcmd, hd]

section
variable {s : State} {g : BitVec 2}

theorem init_cycles (hplan : runningPlan s = planOf (.init g)) : .trial ∈ (runningPlan s).cycles := by
  rw [hplan]
  exact List.mem_singleton.mpr rfl

/-- The configuration's answer in a trial cycle, and the code INIT then ends with (R124). -/
def TrialEnds (a : BusAnswer) (ok : Bool) (code : ErrCode) : Prop :=
  (a = .fail ∧ ok = false ∧ code = .busUnavailable) ∨ ((∃ r, a = .ok r) ∧ ok = true ∧ code = .none)

/-- Whatever the answer, the close and the completion follow. -/
theorem trialConfigured_run {a : BusAnswer} {rest : List BusAnswer} {ok : Bool} {code : ErrCode}
    (hplan : runningPlan s = planOf (.init g)) (hs : s.env.sched = []) (hp : s.phase = .config .trial)
    (ho : s.hopen = true) (hscript : s.env.script = a :: rest) (ha : TrialEnds a ok code) :
    runFor 3 s = .next (finishStep (planOf (.init g)).effect code (goto (.finish code)
      (setHandle false (logBus .closed (logBus (configuredEvent ok) (setScript rest s)))))) := by
  have hconfig : step s =
      .next (goto (.closing .trial (.ends code)) (logBus (configuredEvent ok) (setScript rest s))) := by
    obtain ⟨rfl, rfl, rfl⟩ | ⟨⟨r, rfl⟩, rfl, rfl⟩ := ha
    · exact step_configureFailed hs hp (init_cycles hplan) ho hscript
    · exact step_trialConfigured hs hp (init_cycles hplan) ho hscript
  have hplan' : runningPlan (goto (.closing .trial (.ends code)) (logBus (configuredEvent ok) (setScript rest s))) =
      planOf (.init g) := (runningPlan_congr rfl).trans hplan
  rw [runFor_succ hconfig, lastClose_run (by simpa using hs) rfl (init_cycles hplan') (by simpa using ho), hplan']
  rfl

variable (h : Starting (.init g) s)
include h

theorem init_refused (hg : g = 3#2) : step s = .next (goto (.finish .invalidArgument) s) := by
  obtain ⟨hd, hp, -, hsched⟩ := h
  have hcheck : (runningPlan s).check s = .invalidArgument := by
    rw [runningPlan_of_latched rfl hd]
    exact if_pos hg
  rw [step_check hsched hp, checkStep_error (by simp [hcheck]), hcheck]

theorem init_checked (hg : g ≠ 3#2) : step s = .next (goto (.opening .trial) s) := by
  obtain ⟨hd, hp, -, hsched⟩ := h
  rw [step_check hsched hp, runningPlan_of_latched rfl hd, checkStep_cycle (p := .trial) (ps := []) (if_neg hg) rfl]
  rfl

theorem init_openFails (hg : g ≠ 3#2) {rest : List BusAnswer} (hscript : s.env.script = .fail :: rest) :
    runFor 2 s = .next (goto (.finish .busUnavailable)
      (logBus (.opened Config.busId false) (setScript rest (goto (.opening .trial) s)))) := by
  rw [runFor_succ (init_checked h hg)]
  obtain ⟨hd, -, ho, hsched⟩ := h
  exact runFor_one (step_openFailed hsched rfl (init_cycles (runningPlan_of_latched rfl hd)) ho hscript)

theorem init_opens (hg : g ≠ 3#2) {r : Response} {rest : List BusAnswer} (hscript : s.env.script = .ok r :: rest) :
    runFor 2 s = .next (openedState .trial rest (goto (.opening .trial) s)) := by
  rw [runFor_succ (init_checked h hg)]
  obtain ⟨hd, -, ho, hsched⟩ := h
  exact runFor_one (step_opened hsched rfl (init_cycles (runningPlan_of_latched rfl hd)) ho hscript)

/-- After the configuration, whatever its answer: the close and the completion, and HOPEN is 0 again. -/
theorem init_configured_run (hg : g ≠ 3#2) {r : Response} {a : BusAnswer} {rest : List BusAnswer} {ok : Bool}
    {code : ErrCode} (hscript : s.env.script = .ok r :: a :: rest) (ha : TrialEnds a ok code) :
    runFor 5 s = .next (finishStep (planOf (.init g)).effect code { s with
      phase := .finish code
      env := { s.env with script := rest, busLog :=
        [.closed, configuredEvent ok, .opened Config.busId true] ++ s.env.busLog } }) := by
  rw [runFor_add (n := 2) (m := 3) (init_opens h hg hscript)]
  obtain ⟨hd, -, ho, hsched⟩ := h
  have hplan : runningPlan (openedState .trial (a :: rest) (goto (.opening .trial) s)) = planOf (.init g) :=
    runningPlan_of_latched (by simp [openedState]) hd
  rw [trialConfigured_run (rest := rest) hplan (by simpa [openedState] using hsched) (by simp [openedState])
    (by simp [openedState]) (by simp [openedState]) ha]
  simp [openedState, goto, setHandle, logBus, setScript, ho]

end

/-! ## The statement -/

/-- Settles O20: the runs follow INIT's trial cycle, and the completion writes only where it has no error. -/
theorem initMakesTrialCycleThenUncalibrates : Obligations.InitMakesTrialCycleThenUncalibrates := by
  unfold Obligations.InitMakesTrialCycleThenUncalibrates
  refine ⟨by decide, fun g s hp => ?_, fun s h => ?_, fun g s r1 r2 rest hg h => ⟨fun hscript => ?_,
    fun hscript => ?_, fun hscript => ?_⟩⟩
  · rw [exec_finish hp, finishStep_ok]
    rfl
  · rw [runFor_succ (init_refused h rfl)]
    obtain ⟨-, -, -, hsched⟩ := h
    rw [errorFinish_run (by simpa using hsched) rfl (by decide)]
    simp [completed, goto]
  · rw [runFor_add (n := 2) (m := 1) (init_openFails h hg hscript)]
    obtain ⟨-, -, -, hsched⟩ := h
    rw [errorFinish_run (by simpa using hsched) rfl (by decide)]
    simp [completed, goto]
  · rw [init_configured_run h hg hscript (.inl ⟨rfl, rfl, rfl⟩), finishStep_error (by decide)]
    rfl
  · rw [init_configured_run h hg hscript (.inr ⟨⟨r2, rfl⟩, rfl, rfl⟩), finishStep_ok]
    rfl

end Sys2Proof.Machine
end

section
/-! PROOFS. Which words are commands (R96) and which are illegal (R95), read off the fields of a word. -/

namespace Sys2Proof.Machine

/-! ## The legal words -/

/-- Every command once, in the order in which R96 lists the words. -/
def allCommands : List Instr :=
  [.nop, .init 0, .init 1, .init 2, .init 3, .setGain 0, .setGain 1, .setGain 2, .setGain 3, .setOffset, .setScale,
    .getOffset, .isReady, .readOne, .readAvg, .getUnits, .tare, .calibrate, .close]

theorem mem_allCommands (i : Instr) : i ∈ allCommands := by
  cases i with
  | init g | setGain g => revert g; decide
  | _ => decide

/-- A word is a command's exactly when it is among the words of all commands. -/
theorem decode_command_iff_mem (w : Word) : (∃ i, decode w = .command i) ↔ w ∈ allCommands.map encode := by
  rw [List.mem_map]
  constructor
  · rintro ⟨i, hd⟩
    exact ⟨i, mem_allCommands i, ((decodeInvertsEncode.1 w i).mp hd).symm⟩
  · rintro ⟨i, -, rfl⟩
    exact ⟨i, decode_encode i⟩

/-! ## The illegal words -/

theorem opcodeOf_lt (i : Instr) : opcodeOf i < 0x0D#8 := by
  cases i <;> simp [opcodeOf]

/-- Only INIT and SET_GAIN have a gain field (R92). -/
theorem gainFieldOf_cases (i : Instr) : gainFieldOf i = 0#2 ∨ opcodeOf i = 0x01#8 ∨ opcodeOf i = 0x02#8 := by
  cases i with
  | init g => exact .inr (.inl rfl)
  | setGain g => exact .inr (.inr rfl)
  | _ => exact .inl rfl

/-- `decodeOpc` finds a command for every opcode of R92 that it is asked for. -/
theorem decodeOpc_cases : ∀ opc : BitVec 8, 0x0D#8 ≤ opc ∨ opc = 0x01#8 ∨ opc = 0x02#8 ∨
    ∃ i ∈ allCommands, decodeOpc opc = .command i := by
  decide

theorem reserved_of_decodeOpc {opc : BitVec 8} {why : IllegalWhy} (h : decodeOpc opc = .illegal why)
    (hinit : opc ≠ 0x01#8) (hset : opc ≠ 0x02#8) : 0x0D#8 ≤ opc := by
  obtain hbig | h1 | h2 | ⟨i, -, hi⟩ := decodeOpc_cases opc
  · exact hbig
  · exact absurd h1 hinit
  · exact absurd h2 hset
  · exact absurd (hi.symm.trans h) nofun

/-- R95, check by check. -/
theorem decode_illegal_iff (w : Word) :
    (∃ why, decode w = .illegal why) ↔
      0x0D#8 ≤ opcOf w ∨ rsvOf w ≠ 0#22 ∨ (gOf w ≠ 0#2 ∧ opcOf w ≠ 0x01#8 ∧ opcOf w ≠ 0x02#8) := by
  constructor
  · rintro ⟨why, h⟩
    unfold decode at h
    split_ifs at h with hrsv hinit hset hgain
    · exact .inr (.inl hrsv)
    · exact .inr (.inr ⟨hgain, hinit, hset⟩)
    · exact .inl (reserved_of_decodeOpc h hinit hset)
  · intro h
    cases hd : decode w with
    | illegal why => exact ⟨why, rfl⟩
    | command i =>
      obtain ⟨hrsv, hgain, hopc⟩ := fields_of_decode hd
      rw [hrsv, hgain, hopc] at h
      obtain hbig | hne | ⟨hstray, hinit, hset⟩ := h
      · exact absurd hbig (BitVec.not_le.mpr (opcodeOf_lt i))
      · exact absurd rfl hne
      · obtain h0 | h1 | h2 := gainFieldOf_cases i
        · exact absurd h0 hstray
        · exact absurd h1 hinit
        · exact absurd h2 hset

/-! ## The statements -/

/-- Settles O2: the list is the words of all commands, in their order. -/
theorem legalWordsAreTheList : Obligations.LegalWordsAreTheList := by
  unfold Obligations.LegalWordsAreTheList
  refine ⟨decode_command_iff_mem, fun w h => ?_, by decide⟩
  cases hd : decode w with
  | command i => exact absurd ⟨i, hd⟩ h
  | illegal why => exact ⟨why, rfl⟩

/-- Settles O4, word by word. -/
theorem tableWordsDecode : Obligations.TableWordsDecode := by
  unfold Obligations.TableWordsDecode
  decide

end Sys2Proof.Machine
end

section
/-! PROOFS. The host's moves on CMD and WAIT as steps of the machine (R99, R246, R292), and with them the statement
about WAIT. -/

namespace Sys2Proof.Machine

/-! ## Moves of the schedule -/

/-- The state once a CMD write of the host is taken off the schedule, recorded and accepted (R246). -/
def accepted (v : Word) (rest : List HostMove) (s : State) : State :=
  acceptCommand v (accessed (.wrote 0x00 v) rest s)

/-- A CMD write to an idle engine is accepted (R246). -/
theorem step_command {s : State} {v : Word} {rest : List HostMove} (hb : s.busy = false)
    (h : s.env.sched = .write 0x00 4 v :: rest) : step s = .next (accepted v rest s) := by
  have hw : writeCmd v (accessed (.wrote 0x00 v) rest s) = accepted v rest s := if_neg (by simp [accessed, hb])
  rw [step_write h rfl, ← hw]
  rfl

/-- The schedule gives the engine the next step (R65). -/
theorem step_engineMove {s : State} {rest : List HostMove} (h : s.env.sched = .engine :: rest) :
    step s = engineStep (dropMove rest s) := by
  rw [step_of_move h]
  rfl

/-- WAIT ends where the BUSY it reads is 0 (R99). -/
theorem step_wait_idle {s : State} {gaps : List (List Turn)} {rest : List HostMove} (hb : s.busy = false)
    (h : s.env.sched = .wait gaps :: rest) : step s = .next (accessed (.read 0x04 (statusWord s)) rest s) := by
  obtain ⟨hbusy, -⟩ | ⟨-, hw⟩ := (hostWait_cases gaps (dropMove rest s)).symm
  · simp [hb] at hbusy
  · rw [step_of_move h, performMove, hw]
    rfl

/-- WAIT repeats while the BUSY it reads is 1, after what its schedule puts between (R99, R292). -/
theorem step_wait_busy {s : State} {gaps : List (List Turn)} {rest : List HostMove} (hb : s.busy = true)
    (h : s.env.sched = .wait gaps :: rest) :
    step s = .next (accessed (.read 0x04 (statusWord s)) (gapMoves gaps ++ .wait gaps.tail :: rest) s) := by
  obtain ⟨hidle, -⟩ | ⟨-, hw⟩ := hostWait_cases gaps (dropMove rest s)
  · simp [hb] at hidle
  · rw [step_of_move h, performMove, hw]
    rfl

theorem statusWord_reset : statusWord State.reset = 0#32 := by decide

/-! ## The statement -/

/-- Settles O13: the read by what BUSY it sees; and a reset leaves BUSY = 0, so that the read after it is the last. -/
theorem waitEndsOnlyWhenIdle : Obligations.WaitEndsOnlyWhenIdle := by
  unfold Obligations.WaitEndsOnlyWhenIdle
  refine ⟨fun s gaps rest h => ⟨fun hb => step_wait_idle hb h, fun hb hg => ?_, fun hb g later hg => ?_⟩,
    fun s later rest hb h => ?_⟩
  · subst hg
    exact step_wait_busy hb h
  · subst hg
    exact step_wait_busy hb h
  · rw [runFor_succ (step_wait_busy hb h),
      runFor_succ (resetAbandonsCommandAndClosesHandle _ (.wait later :: rest) rfl),
      runFor_one (step_wait_idle rfl rfl), ← statusWord_reset]
    rfl

end Sys2Proof.Machine
end

section
/-! PROOFS. The CHECK step, command by command (R243), and the two-step runs of the commands that make no bus
transaction (R95, R217). -/

namespace Sys2Proof.Machine

/-! ## The argument checks say what R243 says -/

/-- Bits 62 to 0 of a binary64 are its exponent and its fraction. -/
theorem f64_magnitude_eq_zero_iff (x : DWord) : x.extractLsb' 0 63 = 0#63 ↔ f64IsZero x = true := by
  have h : x.extractLsb' 52 11 ++ x.extractLsb' 0 52 = x.extractLsb' 0 63 :=
    BitVec.extractLsb'_append_extractLsb'_eq_extractLsb' (by rfl)
  rw [← h, ← BitVec.toNat_inj, BitVec.toNat_append, BitVec.toNat_zero, Nat.or_eq_zero_iff, Nat.shiftLeft_eq_zero_iff]
  simp [f64IsZero, f64Exp, f64Frac]

theorem f64_exponent_ones_iff (x : DWord) : x.extractLsb' 52 11 = 0x7FF#11 ↔ f64IsFinite x = false := by
  simp [f64IsFinite, f64Exp, ← BitVec.toNat_inj]

theorem check_eq_of_argumentError {i : Instr} {s : State} (h : ArgumentError i s) :
    (planOf i).check s = .invalidArgument := by
  cases i with
  | nop | setOffset | setScale | getOffset | isReady | readOne | close => exact h.elim
  | init g | setGain g => exact if_pos h
  | readAvg | getUnits | tare => exact if_pos h
  | calibrate =>
    show calibrateCheck s = _
    unfold calibrateCheck
    obtain h | h | h := h
    · exact if_pos h
    · simp [(f64_exponent_ones_iff s.fpL).mp h]
    · simp [(f64_magnitude_eq_zero_iff s.fpL).mp h]

theorem check_eq_of_not_argumentError {i : Instr} {s : State} (h : ¬ArgumentError i s) :
    (planOf i).check s = .none := by
  cases i with
  | nop | setOffset | setScale | getOffset | isReady | readOne | close => rfl
  | init g | setGain g => exact if_neg h
  | readAvg | getUnits | tare => exact if_neg h
  | calibrate =>
    simp only [ArgumentError, f64_exponent_ones_iff, f64_magnitude_eq_zero_iff, not_or] at h
    obtain ⟨hn, hfin, hzero⟩ := h
    show calibrateCheck s = _
    unfold calibrateCheck
    rw [countN, if_neg hn]
    simp [hfin, hzero]

/-! ## Where CHECK leads -/

/-- CHECK without an error leads to the first bus cycle, or to the completion (R243). -/
theorem checkStep_ok {i : Instr} {s : State} (h : (planOf i).check s = .none) :
    checkStep (planOf i) s = goto (firstPhase i) ((planOf i).start s) := by
  rw [checkStep, if_pos h]
  cases i <;> rfl

/-- Only the commands that read samples set registers before their first bus cycle (R150, R181). -/
theorem start_eq_self {i : Instr} (ha : isAveraging i = false) (hr : i ≠ .readOne) (s : State) :
    (planOf i).start s = s := by
  cases i with
  | readOne => exact absurd rfl hr
  | readAvg | getUnits | tare | calibrate => cases ha
  | _ => rfl

theorem runningPlan_of_illegal {s : State} {why : IllegalWhy} (h : decode s.cmdL = .illegal why) :
    runningPlan s = illegalPlan := by
  rw [runningPlan, h]

theorem engineStep_illegal_check {s : State} {why : IllegalWhy} (h : decode s.cmdL = .illegal why)
    (hp : s.phase = .check) : engineStep s = .next (goto (.finish .illegalCmd) s) := by
  rw [engineStep_eq_runPlan, runningPlan_of_illegal h, runPlan_check hp, checkStep_error (c := illegalPlan) nofun]
  rfl

theorem engineStep_illegal_finish {s : State} {why : IllegalWhy} (h : decode s.cmdL = .illegal why)
    (hp : s.phase = .finish .illegalCmd) : engineStep s = .next (completed .illegalCmd s) := by
  rw [engineStep_eq_runPlan, runningPlan_of_illegal h, runPlan_finish hp, finishStep_error (by decide)]

/-! ## Commands without a bus transaction -/

/-- An argument error: CHECK and the completion with its code (R241, R243). -/
theorem refused_run {i : Instr} {s : State} (h : Starting i s) (harg : ArgumentError i s) :
    runFor 2 s = .next (completed .invalidArgument s) := by
  obtain ⟨hd, hp, -, hsched⟩ := h
  have hcheck : (runningPlan s).check s = .invalidArgument := by
    rw [runningPlan_of_latched rfl hd, check_eq_of_argumentError harg]
  have hstep : step s = .next (goto (.finish .invalidArgument) s) := by
    rw [step_check hsched hp, checkStep_error (by simp [hcheck]), hcheck]
  rw [runFor_succ hstep, errorFinish_run (by simpa using hsched) rfl (by decide)]
  rfl

/-- A command without a bus cycle: CHECK and the completion with its effect (R217, R241). -/
theorem accessor_run {i : Instr} {s : State} {check : State → ErrCode} {effect : State → State} (h : Starting i s)
    (hplan : planOf i = accessorPlan check effect) (harg : ¬ArgumentError i s) :
    runFor 2 s = .next (completed .none (effect (goto (.finish .none) s))) := by
  obtain ⟨hd, hp, -, hsched⟩ := h
  have hstep : step s = .next (goto (.finish .none) s) := by
    rw [step_check hsched hp, runningPlan_of_latched rfl hd,
      checkStep_accessor (check_eq_of_not_argumentError harg) (by rw [hplan]; rfl)]
  rw [runFor_succ hstep, runFor_one (step_finish (by simpa using hsched) rfl),
    runningPlan_of_latched (s := s) (t := goto (.finish .none) s) rfl hd, hplan, finishStep_ok]
  rfl

/-! ## The statements -/

/-- Settles O16: the checks are `ArgumentError`'s, and what a command sets before its first cycle is its start. -/
theorem checkStepDecodesAndChecksArguments : Obligations.CheckStepDecodesAndChecksArguments := by
  unfold Obligations.CheckStepDecodesAndChecksArguments
  intro s hp hsched
  refine ⟨fun why hd => ?_, fun i hd harg => ?_, fun i hd harg => ?_⟩
  · rw [step_of_silent hsched, engineStep_illegal_check hd hp]
    rfl
  · have hcheck := check_eq_of_argumentError harg
    rw [step_check hsched hp, runningPlan_of_latched rfl hd, checkStep_error (by simp [hcheck]), hcheck]
    rfl
  · rw [step_check hsched hp, runningPlan_of_latched rfl hd, checkStep_ok (check_eq_of_not_argumentError harg)]
    by_cases ha : isAveraging i = true
    · obtain ⟨-, hstart, -, -⟩ := averaging_plan ha
      rw [hstart]
      refine ⟨0#64, 0#32, 0, rfl, fun _ => ⟨rfl, rfl, rfl⟩, ?_, fun hna => absurd ha (by simp [hna])⟩
      rintro rfl
      cases ha
    · by_cases hr : i = .readOne
      · subst hr
        exact ⟨s.acc, s.k, 0, rfl, nofun, fun _ => ⟨rfl, rfl, rfl⟩, fun _ h => absurd rfl h⟩
      · rw [start_eq_self (Bool.eq_false_iff.mpr ha) hr]
        exact ⟨s.acc, s.k, s.polls, rfl, fun h => absurd h ha, fun h => absurd h hr, fun _ _ => ⟨rfl, rfl, rfl⟩⟩

/-- Settles O21: code 3 is SET_GAIN's argument error. -/
theorem setGainWritesGainOrRefusesCodeThree : Obligations.SetGainWritesGainOrRefusesCodeThree := by
  unfold Obligations.SetGainWritesGainOrRefusesCodeThree
  refine ⟨by decide, fun g s => ⟨fun hp => ?_, fun h hg => ?_, fun h hg => ?_⟩⟩
  · rw [exec_finish hp, finishStep_ok]
    rfl
  · rw [accessor_run h rfl hg]
    rfl
  · rw [refused_run h hg]
    rfl

/-- Settles O3: the checks of R95 on the fields, and the illegal word's run from its acceptance. -/
theorem illegalWordsCompleteWithIllegalCmd : Obligations.IllegalWordsCompleteWithIllegalCmd := by
  unfold Obligations.IllegalWordsCompleteWithIllegalCmd
  refine ⟨decode_illegal_iff, fun s w why hd hbusy hsched => ?_⟩
  have hcheck : step (accepted w [.engine, .engine] s) = .next (goto (.finish .illegalCmd) (accepted w [.engine] s)) :=
    (step_engineMove rfl).trans (engineStep_illegal_check hd rfl)
  have hfinish : step (goto (.finish .illegalCmd) (accepted w [.engine] s)) =
      .next (completed .illegalCmd (goto (.finish .illegalCmd) (accepted w [] s))) :=
    (step_engineMove rfl).trans (engineStep_illegal_finish hd rfl)
  rw [runFor_succ (step_command hbusy hsched), runFor_succ hcheck, runFor_one hfinish]
  rfl

end Sys2Proof.Machine
end

section
/-! PROOFS. The averaging loop over samples that are read at once (R180, R181): the turns put together by induction on
the samples, and the exact sum in ACC (R187). -/

namespace Sys2Proof.Machine

/-! ## The sample counter -/

/-- While K < n the counter does not wrap. -/
theorem k_succ_toNat {s : State} (h : (s.k.toNat : Int) < countN s) : (s.k + 1).toNat = s.k.toNat + 1 := by
  have hn : s.nL.toInt < 2 ^ 31 := BitVec.toInt_lt
  unfold countN at h
  rw [BitVec.toNat_add, show (1 : Word).toNat = 1 from rfl]
  omega

/-- A counter that has reached n is N_L. -/
theorem eq_nL_of_toNat_eq {s : State} {k : Word} (h : (k.toNat : Int) = countN s) : k = s.nL := by
  have hn : s.nL.toInt < 2 ^ 31 := BitVec.toInt_lt
  unfold countN at h
  refine BitVec.eq_of_toInt_eq ?_
  rw [BitVec.toInt_eq_toNat_of_lt (by omega), h]

/-! ## The sum -/

theorem sampleSum_bounds (sel : DecodeSelect) (rs : List Response) :
    -(2 ^ 31 * (rs.length : Int)) ≤ sampleSum sel rs ∧ sampleSum sel rs ≤ 2 ^ 31 * (rs.length : Int) := by
  induction rs with
  | nil => exact ⟨le_rfl, le_rfl⟩
  | cons q qs ih =>
    have hle : -2 ^ 31 ≤ (sampleOf sel q).toInt := BitVec.le_toInt _
    have hlt : (sampleOf sel q).toInt < 2 ^ 31 := BitVec.toInt_lt
    have hsum : sampleSum sel (q :: qs) = (sampleOf sel q).toInt + sampleSum sel qs := List.sum_cons
    rw [hsum, List.length_cons]
    push_cast
    omega

/-- The sum of as many samples as N_L can ask for fits the accumulator (R187). -/
theorem sampleSum_toInt {sel : DecodeSelect} {rs : List Response} {n : Word} (h : n.toInt = rs.length) :
    (BitVec.ofInt 64 (sampleSum sel rs)).toInt = sampleSum sel rs := by
  have hn : n.toInt < 2 ^ 31 := BitVec.toInt_lt
  obtain ⟨hlo, hhi⟩ := sampleSum_bounds sel rs
  exact BitVec.toInt_ofInt_eq_self (by decide) (by omega) (by omega)

/-- A sample more in the sum is a sample more in ACC. -/
theorem ofInt_sampleSum_cons (sel : DecodeSelect) (q : Response) (qs : List Response) :
    BitVec.ofInt 64 (sampleSum sel (q :: qs)) =
      (sampleOf sel q).signExtend 64 + BitVec.ofInt 64 (sampleSum sel qs) := by
  simp [sampleSum, BitVec.ofInt_add, BitVec.signExtend]

/-! ## The loop -/

/-- At the open of the next probe cycle, with the sample of `r` added and counted. -/
def countedState (r : Response) (rest : List BusAnswer) (log : List BusEvent) (s : State) : State :=
  { s with
    acc := s.acc + (sampleOf s.params.decodeSelect r).signExtend 64, k := s.k + 1
    raw0 := raw0Of r, raw1 := raw1Of r, raw2 := raw2Of r, phase := .opening .probe
    env := { s.env with script := rest, busLog := log ++ s.env.busLog } }

/-- FINISH of an averaging command whose last response was `r`, with `acc` in ACC and K = n. -/
def averagedState (acc : DWord) (r : Response) (rest : List BusAnswer) (log : List BusEvent) (s : State) : State :=
  { s with
    acc := acc, k := s.nL, polls := 0, raw0 := raw0Of r, raw1 := raw1Of r, raw2 := raw2Of r, phase := .finish .none
    env := { s.env with script := rest, busLog := log ++ s.env.busLog } }

section
variable {i : Instr} {s : State} {r : Response} {rest : List BusAnswer} (hi : isAveraging i = true)
  (hd : decode s.cmdL = .command i) (hp : s.phase = .opening .probe) (ho : s.hopen = false) (hs : s.env.sched = [])
  (h0 : s.polls = 0)
include hi hd hp ho hs h0

theorem averageTurn_more (hv : validResponse r = true) (hscript : s.env.script = sampleAnswers r ++ rest)
    (hk : (s.k.toNat : Int) + 1 < countN s) :
    ∃ log, log.length = 8 ∧ runFor 8 s = .next (countedState r rest log s) := by
  obtain ⟨log, hlog, hturn⟩ := averageTurn_run hi hd hp ho hs h0 hv hscript
  rw [if_pos (by rw [k_succ_toNat (by omega)]; exact_mod_cast hk)] at hturn
  exact ⟨log, hlog, hturn⟩

theorem averageTurn_last (hv : validResponse r = true) (hscript : s.env.script = sampleAnswers r ++ rest)
    (hk : (s.k.toNat : Int) + 1 = countN s) :
    ∃ log, log.length = 8 ∧ runFor 8 s =
      .next (averagedState (s.acc + (sampleOf s.params.decodeSelect r).signExtend 64) r rest log s) := by
  obtain ⟨log, hlog, hturn⟩ := averageTurn_run hi hd hp ho hs h0 hv hscript
  have hkn : ((s.k + 1).toNat : Int) = countN s := by
    rw [k_succ_toNat (by omega)]
    exact_mod_cast hk
  rw [if_neg hkn.not_lt, eq_nL_of_toNat_eq hkn, h0] at hturn
  exact ⟨log, hlog, hturn⟩

/-- From the open of a probe cycle, with as many samples to come as are wanted. -/
theorem averageLoop_run (rs : List Response) (hlast : rs.getLast? = some r)
    (hvalid : ∀ q ∈ rs, validResponse q = true) (hk : (s.k.toNat : Int) + rs.length = countN s)
    (hscript : s.env.script = rs.flatMap sampleAnswers ++ rest) :
    ∃ log, log.length = 8 * rs.length ∧ runFor (8 * rs.length) s =
      .next (averagedState (s.acc + BitVec.ofInt 64 (sampleSum s.params.decodeSelect rs)) r rest log s) := by
  induction rs generalizing s with
  | nil => cases hlast
  | cons q qs ih =>
    have hv := hvalid q List.mem_cons_self
    rw [ofInt_sampleSum_cons]
    rw [List.flatMap_cons, List.append_assoc] at hscript
    cases qs with
    | nil =>
      cases hlast
      obtain ⟨log, hlog, hturn⟩ := averageTurn_last hi hd hp ho hs h0 hv hscript hk
      exact ⟨log, hlog, by simpa [sampleSum] using hturn⟩
    | cons q' qs =>
      simp only [List.length_cons] at hk
      obtain ⟨log, hlog, hturn⟩ := averageTurn_more hi hd hp ho hs h0 hv hscript (by omega)
      have hcount : (s.k + 1).toNat = s.k.toNat + 1 := k_succ_toNat (by omega)
      obtain ⟨logs, hlogs, hrun⟩ := ih (s := countedState q ((q' :: qs).flatMap sampleAnswers ++ rest) log s) hd rfl ho
        hs h0 (by simpa using hlast) (fun p hp => hvalid p (List.mem_cons_of_mem q hp))
        (by simp only [countedState, countN, hcount, List.length_cons] at hk ⊢; omega) rfl
      refine ⟨logs ++ log, by simp [hlog, hlogs]; omega, ?_⟩
      rw [show 8 * (q :: q' :: qs).length = 8 + 8 * (q' :: qs).length by simp; omega, runFor_add hturn, hrun]
      simp [averagedState, countedState, BitVec.add_assoc]

end

/-- The whole run from CHECK to FINISH: ACC holds the exact sum and K = n. -/
theorem averageRun {i : Instr} {s : State} {rs : List Response} {r : Response} {rest : List BusAnswer}
    (hi : isAveraging i = true) (h : Starting i s) (harg : ¬ArgumentError i s) (hlast : rs.getLast? = some r)
    (hn : s.nL.toInt = rs.length) (hvalid : ∀ q ∈ rs, validResponse q = true)
    (hscript : s.env.script = rs.flatMap sampleAnswers ++ rest) :
    ∃ log, log.length = 8 * rs.length ∧ runFor (8 * rs.length + 1) s =
      .next (averagedState (BitVec.ofInt 64 (sampleSum s.params.decodeSelect rs)) r rest log s) := by
  obtain ⟨hd, hp, ho, hsched⟩ := h
  obtain ⟨hc, hstart, -, -⟩ := averaging_plan hi
  have hcheck : step s = .next (goto (.opening .probe) (startAverage s)) := by
    rw [step_check hsched hp, runningPlan_of_latched rfl hd,
      checkStep_cycle (check_eq_of_not_argumentError harg) hc, hstart]
  obtain ⟨log, hlog, hrun⟩ := averageLoop_run (s := goto (.opening .probe) (startAverage s)) hi hd rfl ho hsched rfl
    rs hlast hvalid (by simpa [startAverage, startPoll, countN] using hn.symm) hscript
  refine ⟨log, hlog, ?_⟩
  rw [runFor_succ hcheck, hrun]
  simp [averagedState, startAverage, startPoll, goto]


/-- The average is that of the samples. -/
theorem averageRaw_averagedState {s : State} {sel : DecodeSelect} {rs : List Response} (hn : s.nL.toInt = rs.length)
    (r : Response) (rest : List BusAnswer) (log : List BusEvent) :
    averageRaw (averagedState (BitVec.ofInt 64 (sampleSum sel rs)) r rest log s) = averageOf sel rs := by
  show BitVec.ofInt 32 (quot (BitVec.ofInt 64 (sampleSum sel rs)).toInt s.nL.toInt) = averageOf sel rs
  rw [sampleSum_toInt hn, hn, averageOf]

end Sys2Proof.Machine
end

section
/-! PROOFS. `EXEC <cmd>` (R99): between the reads of its WAIT the engine makes the steps it makes under a silent host,
until the read that sees BUSY = 0. From that, the law of TARE and READ_AVG (R194). -/

namespace Sys2Proof.Machine

/-! ## A WAIT over an engine's run -/

theorem runFor_succ_inv {n : Nat} {s t : State} (h : runFor (n + 1) s = .next t) :
    ∃ u, step s = .next u ∧ runFor n u = .next t := by
  cases hs : step s with
  | next u => exact ⟨u, rfl, runFor_succ hs ▸ h⟩
  | fault r | refused r => simp [runFor, hs] at h

/-- An engine step never raises BUSY: only acceptance does (R246). -/
theorem busy_of_engineStep {s t : State} (h : engineStep s = .next t) (hb : t.busy = true) : s.busy = true := by
  obtain ⟨code, -, rfl⟩ | hf | ⟨-, -, r, hf⟩ := runPlan_frame (runningPlan_frame s) (engineStep_eq_runPlan s ▸ h)
  · cases hb
  · exact (congrArg State.busy hf :).symm.trans hb
  · exact (congrArg State.busy hf :).symm.trans hb

theorem engineStep_withHost {i : Instr} {s : State} (hd : decode s.cmdL = .command i) (sc : List HostMove)
    (lg : List HostEvent) : engineStep (withHost sc lg s) = resultWithHost sc lg (engineStep s) := by
  rw [engineStep_of_decode hd, engineStep_of_decode (s := withHost sc lg s) hd, exec_withHost]

section
variable {i : Instr} {rest : List HostMove} {s t : State}

/-- A read that sees BUSY = 1, and the engine step after it. -/
theorem waitTurn_run (hd : decode s.cmdL = .command i) (hb : s.busy = true) (h : engineStep s = .next t)
    (lg : List HostEvent) :
    runFor 2 (withHost (.wait [] :: rest) lg s) =
      .next (withHost (.wait [] :: rest) (.read 0x04 (statusWord s) :: lg) t) := by
  have hread : step (withHost (.wait [] :: rest) lg s) =
      .next (withHost (.engine :: .wait [] :: rest) (.read 0x04 (statusWord s) :: lg) s) :=
    step_wait_busy (s := withHost (.wait [] :: rest) lg s) hb rfl
  have hengine : step (withHost (.engine :: .wait [] :: rest) (.read 0x04 (statusWord s) :: lg) s) =
      engineStep (withHost (.wait [] :: rest) (.read 0x04 (statusWord s) :: lg) s) := step_engineMove rfl
  rw [engineStep_withHost hd, h] at hengine
  rw [runFor_succ hread, runFor_one hengine]

/-- While the engine is busy, a WAIT goes through the states of the silent host's run. -/
theorem wait_follows_run {m : Nat} (hd : decode s.cmdL = .command i) (hs : s.env.sched = [])
    (h : runFor m s = .next t) (hb : t.busy = true) (lg : List HostEvent) :
    s.busy = true ∧
      ∃ lg', runFor (2 * m) (withHost (.wait [] :: rest) lg s) = .next (withHost (.wait [] :: rest) lg' t) := by
  induction m generalizing s lg with
  | zero =>
    cases h
    exact ⟨hb, lg, rfl⟩
  | succ m ih =>
    obtain ⟨u, hu, h⟩ := runFor_succ_inv h
    rw [step_of_silent hs] at hu
    have hframe := engineBlanked_engineStep hu
    have hcmd : u.cmdL = s.cmdL := (congrArg State.cmdL hframe :)
    have hsched : u.env.sched = s.env.sched := (congrArg (·.env.sched) hframe :)
    obtain ⟨hub, lg', hrun⟩ := ih (hcmd ▸ hd) (hsched.trans hs) h (.read 0x04 (statusWord s) :: lg)
    have hsb := busy_of_engineStep hu hub
    exact ⟨hsb, lg', by rw [show 2 * (m + 1) = 2 + 2 * m by omega, runFor_add (waitTurn_run hd hsb hu lg), hrun]⟩

/-! ## EXEC -/

/-- The state in which an accepted command starts, with the host silent. -/
def silentStart (i : Instr) (s : State) : State := withHost [] [] (acceptCommand (encode i) s)

theorem accepted_eq_withHost (i : Instr) (moves : List HostMove) (s : State) :
    accepted (encode i) moves s = withHost moves (.wrote 0x00 (encode i) :: s.env.hostLog) (silentStart i s) := rfl

/-- `EXEC` of a command whose run ends in the state `t` ends in `t`, with a read of STATUS that saw BUSY = 0. -/
theorem execCommand_run {m : Nat} {u : State} (hb : s.busy = false)
    (hsched : s.env.sched = expandLine (.execCmd i) ++ rest) (hrun : runFor m (silentStart i s) = .next u)
    (hcmd : u.cmdL = encode i) (hub : u.busy = true) (hlast : engineStep u = .next t) (htb : t.busy = false) :
    ∃ n lg, runFor n s = .next (withHost rest (.read 0x04 (statusWord t) :: lg) t) := by
  have hwrite : s.env.sched = .write 0x00 4 (encode i) :: .wait [] :: rest := hsched
  have haccept := step_command hb hwrite
  rw [accepted_eq_withHost] at haccept
  obtain ⟨-, lg, hwait⟩ := wait_follows_run (s := silentStart i s) (rest := rest) (decode_encode i) rfl hrun hub
    (.wrote 0x00 (encode i) :: s.env.hostLog)
  have hturn := waitTurn_run (rest := rest) (hcmd ▸ decode_encode i) hub hlast lg
  have hend : step (withHost (.wait [] :: rest) (.read 0x04 (statusWord u) :: lg) t) =
      .next (withHost rest (.read 0x04 (statusWord t) :: .read 0x04 (statusWord u) :: lg) t) :=
    step_wait_idle (s := withHost (.wait [] :: rest) (.read 0x04 (statusWord u) :: lg) t) htb rfl
  refine ⟨2 * m + (2 + 1) + 1, .read 0x04 (statusWord u) :: lg, ?_⟩
  rw [runFor_succ haccept, runFor_add hwait, runFor_add (n := 2) (m := 1) hturn, runFor_one hend]

end

theorem engineStep_success {i : Instr} {s : State} (hd : decode s.cmdL = .command i) (hp : s.phase = .finish .none) :
    engineStep s = .next (completed .none ((planOf i).effect s)) := by
  rw [engineStep_of_decode hd, exec_finish hp, finishStep_ok]

/-- What an averaging command started in `s` has at its FINISH over the samples of `rs`. -/
structure Averaged (rs : List Response) (rest : List BusAnswer) (s u : State) : Prop where
  argN : u.argN = s.argN
  params : u.params = s.params
  offset : u.offset = s.offset
  hopen : u.hopen = s.hopen
  script : u.env.script = rest
  average : averageRaw u = averageOf s.params.decodeSelect rs

/-- `EXEC` of an averaging command ends with the command's effect on its average. -/
theorem execAverage_run {i : Instr} {s : State} {rs : List Response} {rest : List BusAnswer} {moves : List HostMove}
    (hi : isAveraging i = true) (hb : s.busy = false) (ho : s.hopen = false)
    (hsched : s.env.sched = expandLine (.execCmd i) ++ moves) (harg : ¬ArgumentError i (silentStart i s))
    (hne : rs ≠ []) (hn : s.argN.toInt = rs.length) (hvalid : ∀ q ∈ rs, validResponse q = true)
    (hscript : s.env.script = rs.flatMap sampleAnswers ++ rest) :
    ∃ n lg u, Averaged rs rest s u ∧ runFor n s =
      .next (withHost moves (.read 0x04 (statusWord (completed .none ((planOf i).effect u))) :: lg)
        (completed .none ((planOf i).effect u))) := by
  obtain ⟨log, -, hrun⟩ := averageRun hi (s := silentStart i s) ⟨decode_encode i, rfl, ho, rfl⟩ harg
    (List.getLast?_eq_some_getLast hne) hn hvalid hscript
  have haverage := averageRaw_averagedState (sel := s.params.decodeSelect) (s := silentStart i s) hn (rs.getLast hne)
    rest log
  have hcmd : (silentStart i s).cmdL = encode i := rfl
  set u := averagedState _ (rs.getLast hne) rest log (silentStart i s)
  obtain ⟨n, lg, h⟩ := execCommand_run hb hsched hrun hcmd rfl (engineStep_success (decode_encode i) rfl) rfl
  exact ⟨n, lg, u, ⟨rfl, rfl, rfl, rfl, rfl, haverage⟩, h⟩

/-! ## The statement -/

/-- Settles O42: both averages are of the same samples, and READ_AVG subtracts the one that TARE left. -/
theorem tareThenReadAvgIsZero : Obligations.TareThenReadAvgIsZero := by
  unfold Obligations.TareThenReadAvgIsZero
  intro s rs rest hb _ ho hne hn hvalid hsched hscript
  have hpos := List.length_pos_iff.mpr hne
  obtain ⟨n₁, lg₁, u, hu, htare⟩ := execAverage_run (i := .tare) (moves := expandLine (.execCmd .readAvg)) rfl hb ho
    hsched (fun h : s.argN.toInt < 1 => by omega) hne hn hvalid (by rw [hscript, List.append_assoc])
  obtain ⟨n₂, lg₂, v, hv, hread⟩ := execAverage_run (i := .readAvg) (rs := rs) (rest := rest) (moves := [])
    (s := withHost (expandLine (.execCmd .readAvg))
      (.read 0x04 (statusWord (completed .none ((planOf .tare).effect u))) :: lg₁)
      (completed .none ((planOf .tare).effect u))) rfl rfl (hu.hopen.trans ho) rfl
    (fun h : u.argN.toInt < 1 => by rw [hu.argN] at h; omega) hne (hu.argN ▸ hn) hvalid hu.script
  have hoffset : v.offset = averageOf s.params.decodeSelect rs := hv.offset.trans hu.average
  have haverage : averageRaw v = averageOf s.params.decodeSelect rs := by
    rw [hv.average, ← hu.params]
    rfl
  refine ⟨n₁ + n₂, _, (runFor_add htare).trans hread, rfl, rfl, rfl, hoffset, ?_, rfl, _, _, rfl, ?_⟩
  · show averageRaw v - v.offset = 0#32
    rw [haverage, hoffset, BitVec.sub_self]
  · exact (statusFields _ _ _ _).1

end Sys2Proof.Machine
end

section
/-! PROOFS. What a probe's answer does (R129): IS_READY reports it (R131), and a reading command takes its poll decision
on it (R150). -/

namespace Sys2Proof.Machine

/-! ## Readiness -/

/-- R129, over the bytes received. -/
theorem probeReady_iff (r : Response) (s : State) :
    probeReady r s = true ↔ ∀ b ∈ r.toList.take (probeLen s), b = 0#8 := by
  simp [probeReady]

/-- R129, over the response's bytes by their index. -/
theorem probeReady_iff_getElem (r : Response) (s : State) :
    probeReady r s = true ↔ ∀ k (h : k < 10), k < probeLen s → r[k] = 0#8 := by
  have hle := probeLen_le s
  simp only [probeReady_iff, List.forall_mem_iff_getElem, List.length_take, Vector.length_toList, List.getElem_take,
    Vector.getElem_toList]
  exact ⟨fun hr k _ hk => hr k (by omega), fun hr k hk => hr k (by omega) (by omega)⟩

/-- `PROBE_LEN` as a number (R5). -/
theorem probeLen_eq {s : State} {n : Nat}
    (h : n = 1 ∧ s.params.probeLen = .one ∨ n = 10 ∧ s.params.probeLen = .ten) : probeLen s = n := by
  obtain ⟨rfl, h⟩ | ⟨rfl, h⟩ := h <;> simp [probeLen, h]

/-! ## The step that receives a probe's answer -/

/-- The poll decision is taken in the step that receives the answer. -/
theorem exec_probe {i : Instr} {s : State} {r : Response} {rest : List BusAnswer}
    (hi : i = .readOne ∨ isAveraging i = true) (hp : s.phase = .xfer .probe) (ho : s.hopen = true)
    (h : s.env.script = .ok r :: rest) :
    exec i s = .next (pollDecision (probeReady r s) (receivedState (probeTx s) r rest s)) := by
  obtain ⟨hc, hprobed⟩ := reading_plan hi
  rw [exec_eq_runPlan, runPlan_probe hp (by simp [hc]), busTransfer_ok ho h, hprobed]
  rfl

/-! ## IS_READY's run -/

theorem isReady_cycles {s : State} (hplan : runningPlan s = planOf .isReady) : .probe ∈ (runningPlan s).cycles := by
  rw [hplan]
  exact List.mem_singleton.mpr rfl

/-- Whatever the probe answered, the close is the last of the command's only cycle. -/
theorem step_isReadyProbed {s : State} {ready : Bool} (hplan : runningPlan s = planOf .isReady)
    (hs : s.env.sched = []) (ho : s.hopen = true) :
    step (isReadyProbed ready s) = .next { s with
      val := if ready then 1#32 else 0#32, hopen := false, phase := .finish .none
      env := { s.env with busLog := .closed :: s.env.busLog } } := by
  have hplan' : runningPlan (isReadyProbed ready s) = planOf .isReady := (runningPlan_congr rfl).trans hplan
  rw [step_closing (s := isReadyProbed ready s) hs rfl (isReady_cycles hplan') ho, closedState_eq]
  rfl

/-- FINISH of IS_READY after a probe that received `r`. -/
def isReadyFinish (r : Response) (rest : List BusAnswer) (s : State) : State :=
  { s with
    val := if probeReady r s then 1#32 else 0#32, phase := .finish .none
    env := { s.env with
      script := rest, busLog := cycleLog (probeTx s) (r.toList.take (probeTx s).length) ++ s.env.busLog } }

/-- One probe cycle, whose answer is never followed by another (R131). -/
theorem isReadyCycle_run {s : State} {r : Response} {rest : List BusAnswer} (hplan : runningPlan s = planOf .isReady)
    (hs : s.env.sched = []) (hp : s.phase = .opening .probe) (ho : s.hopen = false)
    (hscript : s.env.script = cycleAnswers r ++ rest) : runFor 4 s = .next (isReadyFinish r rest s) := by
  have hprobed := probeCycle_run hs hp (isReady_cycles hplan) ho hscript
  rw [hplan] at hprobed
  have hclose := step_isReadyProbed (ready := probeReady r s) (s := answeredState .probe (probeTx s) r rest s)
    ((runningPlan_congr (by simp [answeredState_eq])).trans hplan) (by simpa [answeredState_eq] using hs)
    (by simp [answeredState_eq])
  rw [runFor_add (n := 3) (m := 1) hprobed]
  refine (runFor_one hclose).trans ?_
  simp [isReadyFinish, answeredState_eq, cycleLog, ho]

/-- CHECK, the cycle and the completion; the cycle's answer alone settles RES_INT (R131). -/
theorem isReady_run {s : State} {r : Response} {rest : List BusAnswer} (h : Starting .isReady s)
    (hscript : s.env.script = cycleAnswers r ++ rest) :
    runFor 6 s = .next (completed .none ((planOf .isReady).effect (isReadyFinish r rest s))) := by
  obtain ⟨hd, hp, ho, hsched⟩ := h
  have hplan {t : State} (hcmd : t.cmdL = s.cmdL) : runningPlan t = planOf .isReady := runningPlan_of_latched hcmd hd
  have hcheck : step s = .next (goto (.opening .probe) s) := by
    rw [step_check hsched hp, hplan rfl, checkStep_ok (i := .isReady) rfl]
    rfl
  have hcycle := isReadyCycle_run (s := goto (.opening .probe) s) (hplan rfl) hsched rfl ho hscript
  have hfinish := step_finish (s := isReadyFinish r rest s) (code := .none) hsched rfl
  rw [hplan (t := isReadyFinish r rest s) rfl, finishStep_ok] at hfinish
  rw [runFor_succ hcheck, runFor_add (n := 4) (m := 1) hcycle]
  exact runFor_one hfinish

/-! ## The statements -/

/-- Settles O28: RES_INT is what the probe's readiness left in `val`. -/
theorem isReadyReportsProbe : Obligations.IsReadyReportsProbe := by
  unfold Obligations.IsReadyReportsProbe
  refine ⟨fun s hp => ?_, fun s r rest n res h hscript hn hres => ?_⟩
  · rw [exec_finish hp, finishStep_ok]
    rfl
  · obtain rfl := probeLen_eq hn
    have hval : (if probeReady r s then 1#32 else 0#32) = res := by
      obtain ⟨hzero, rfl⟩ | ⟨⟨k, hk, hlt, hne⟩, rfl⟩ := hres
      · exact if_pos ((probeReady_iff_getElem r s).mpr hzero)
      · exact if_neg fun hr => hne ((probeReady_iff_getElem r s).mp hr k hk hlt)
    rw [isReady_run h hscript, isReadyFinish, hval, probeTx_length]
    rfl

/-- Settles O29: the three outcomes are the cases of the poll decision. -/
theorem pollDecisionFollowsLimit : Obligations.PollDecisionFollowsLimit := by
  unfold Obligations.PollDecisionFollowsLimit
  intro i s r rest hi hp ho hscript
  refine ⟨(receivedState (probeTx s) r rest s).env, by simp [receivedState, setScript, probeTx], ?_⟩
  rw [exec_probe hi hp ho hscript, ← probeReady_iff]
  obtain ⟨hr, h⟩ | ⟨hr, ⟨limit, hl, hle⟩, h⟩ | ⟨hr, hlt, h⟩ :=
    pollDecision_cases (probeReady r s) (receivedState (probeTx s) r rest s) <;> rw [h]
  · exact ⟨fun _ => rfl, fun hn => absurd hr hn, fun hn => absurd hr hn⟩
  · refine ⟨fun hready => by simp [hr] at hready, fun _ _ => rfl, fun _ hlt => ?_⟩
    exact absurd (hlt limit hl) (Nat.not_lt.mpr hle)
  · refine ⟨fun hready => by simp [hr] at hready, fun _ ⟨limit, hl, hle⟩ => ?_, fun _ _ => rfl⟩
    exact absurd (hlt limit hl) (Nat.not_lt.mpr hle)

end Sys2Proof.Machine
end

section
/-! PROOFS. The sample decoder: which bits of a response it reads (R155, R156), how it puts them together (R157, R158),
and that it inverts the encoding of R161. -/

namespace Sys2Proof.Machine

/-! ## The selected bits of a byte -/

theorem getLsbD_append_ofBool : ∀ b3 b2 b1 b0 : Bool,
    let n := BitVec.ofBool b3 ++ BitVec.ofBool b2 ++ BitVec.ofBool b1 ++ BitVec.ofBool b0
    n.getLsbD 3 = b3 ∧ n.getLsbD 2 = b2 ∧ n.getLsbD 1 = b1 ∧ n.getLsbD 0 = b0 := by
  decide

/-- Nibble bit `k` is the byte's bit that the selection names for it (R156). -/
theorem nibbleOf_getLsbD (sel : DecodeSelect) (c : Byte) :
    (nibbleOf sel c).getLsbD 3 = c.getLsbD sel.bit3 ∧ (nibbleOf sel c).getLsbD 2 = c.getLsbD sel.bit2 ∧
      (nibbleOf sel c).getLsbD 1 = c.getLsbD sel.bit1 ∧ (nibbleOf sel c).getLsbD 0 = c.getLsbD sel.bit0 :=
  getLsbD_append_ofBool _ _ _ _

/-- Bytes that agree under the mask agree, inverted, in each bit of the mask. -/
theorem not_getLsbD_of_and_eq {a b mask : Byte} (h : a &&& mask = b &&& mask) {k : Fin 8}
    (hk : mask.getLsbD k = true) : (~~~a).getLsbD k = (~~~b).getLsbD k := by
  have hbit : (a &&& mask).getLsbD k = (b &&& mask).getLsbD k := by rw [h]
  rw [BitVec.getLsbD_and, BitVec.getLsbD_and, hk, Bool.and_true, Bool.and_true] at hbit
  rw [BitVec.getLsbD_not, BitVec.getLsbD_not, hbit]

/-- The default selection reads the data bits, mask 0xAA, only (R156). -/
theorem nibbleOf_not_congr {a b : Byte} (h : a &&& 0xAA#8 = b &&& 0xAA#8) :
    nibbleOf defaultSelect (~~~a) = nibbleOf defaultSelect (~~~b) := by
  unfold nibbleOf
  rw [not_getLsbD_of_and_eq h (k := defaultSelect.bit3) (by decide),
    not_getLsbD_of_and_eq h (k := defaultSelect.bit2) (by decide),
    not_getLsbD_of_and_eq h (k := defaultSelect.bit1) (by decide),
    not_getLsbD_of_and_eq h (k := defaultSelect.bit0) (by decide)]

/-! ## Encoding and decoding one nibble (R161) -/

theorem nibbleOf_not_spreadNibble : ∀ n : BitVec 4, nibbleOf defaultSelect (~~~(spreadNibble (~~~n))) = n := by
  decide

/-- Whatever the non-data bits are, an encoded byte decodes to the nibble it was made from. -/
theorem nibbleOf_not_encodeByte {v : BitVec 24} {k : Nat} {m : Byte} (hm : m &&& 0xAA#8 = 0#8) :
    nibbleOf defaultSelect (~~~(encodeByte v k m)) = v.extractLsb' (20 - 4 * k) 4 := by
  have hdata : encodeByte v k m &&& 0xAA#8 = spreadNibble (~~~(v.extractLsb' (20 - 4 * k) 4)) &&& 0xAA#8 := by
    rw [encodeByte, BitVec.and_or_distrib_right, hm, BitVec.or_zero]
  rw [nibbleOf_not_congr hdata, nibbleOf_not_spreadNibble]

/-! ## Assembly -/

/-- The six nibbles of a 24-bit value, put together again. -/
theorem nibbles_append (v : BitVec 24) :
    v.extractLsb' 20 4 ++ v.extractLsb' 16 4 ++ v.extractLsb' 12 4 ++ v.extractLsb' 8 4 ++ v.extractLsb' 4 4
      ++ v.extractLsb' 0 4 = v := by
  rw [BitVec.extractLsb'_append_extractLsb'_eq_extractLsb' (by rfl),
    BitVec.extractLsb'_append_extractLsb'_eq_extractLsb' (by rfl),
    BitVec.extractLsb'_append_extractLsb'_eq_extractLsb' (by rfl),
    BitVec.extractLsb'_append_extractLsb'_eq_extractLsb' (by rfl),
    BitVec.extractLsb'_append_extractLsb'_eq_extractLsb' (by rfl)]
  exact BitVec.extractLsb'_eq_self

/-- Appending six nibbles is shifting each to its place (R157). -/
theorem append_six_nibbles (n0 n1 n2 n3 n4 n5 : BitVec 4) :
    n0 ++ n1 ++ n2 ++ n3 ++ n4 ++ n5 =
      n0.setWidth 24 <<< 20 ||| n1.setWidth 24 <<< 16 ||| n2.setWidth 24 <<< 12 ||| n3.setWidth 24 <<< 8
        ||| n4.setWidth 24 <<< 4 ||| n5.setWidth 24 := by
  refine (BitVec.setWidth_eq _).symm.trans ?_
  rw [BitVec.setWidth_append_append_append_eq_shiftLeft_setWidth_or,
    BitVec.setWidth_append_append_eq_shiftLeft_setWidth_or]
  simp only [BitVec.shiftLeft_or_distrib, ← BitVec.shiftLeft_add]

/-- Sign extension keeps the value (R158). -/
theorem sampleOf_toInt (sel : DecodeSelect) (r : Response) :
    (sampleOf sel r).toInt = (assemble24 sel r[0] r[1] r[2] r[3] r[4] r[5]).toInt :=
  BitVec.toInt_signExtend_of_le (by decide)

/-! ## Validity of a response without stray bytes (R153) -/

theorem eq_zeroResponse_iff (r : Response) :
    r = zeroResponse ↔ r[0] = 0#8 ∧ r[1] = 0#8 ∧ r[2] = 0#8 ∧ r[3] = 0#8 ∧ r[4] = 0#8 ∧ r[5] = 0#8 ∧ r[6] = 0#8 ∧
      r[7] = 0#8 ∧ r[8] = 0#8 ∧ r[9] = 0#8 := by
  constructor
  · rintro rfl
    decide
  · rintro ⟨h0, h1, h2, h3, h4, h5, h6, h7, h8, h9⟩
    refine Vector.ext fun k hk => ?_
    interval_cases k <;> simpa [zeroResponse]

theorem validResponse_eq_false_iff {r : Response} (h7 : r[7] = 0#8) (h8 : r[8] = 0#8) (h9 : r[9] = 0#8) :
    validResponse r = false ↔ r = zeroResponse := by
  rw [eq_zeroResponse_iff]
  simp [validResponse, h7, h8, h9, and_assoc]

/-! ## The statements -/

/-- Settles O32: bit by bit for the nibble, by the places of the nibbles for the value, which sign extension keeps. -/
theorem sampleIsSignExtendedNibbles : Obligations.SampleIsSignExtendedNibbles := by
  unfold Obligations.SampleIsSignExtendedNibbles
  refine ⟨rfl, fun r => ?_, fun sel r => ⟨append_six_nibbles _ _ _ _ _ _, sampleOf_toInt sel r, ?_, ?_⟩⟩
  · obtain ⟨h3, h2, h1, h0⟩ := nibbleOf_getLsbD defaultSelect (~~~r)
    rw [h3, h2, h1, h0]
    simp [defaultSelect]
  · rw [sampleOf_toInt]
    exact BitVec.le_toInt _
  · rw [sampleOf_toInt]
    exact Int.le_of_lt_add_one BitVec.toInt_lt

/-- Settles O33: each byte gives back its nibble, and the six nibbles are the value. -/
theorem decodeRecoversEncodedSample : Obligations.DecodeRecoversEncodedSample := by
  unfold Obligations.DecodeRecoversEncodedSample
  rintro v m0 m1 m2 m3 m4 m5 b6 r h0 h1 h2 h3 h4 h5 rfl
  refine ⟨?_, validResponse_eq_false_iff rfl rfl rfl⟩
  rw [sampleOf_toInt]
  show (nibbleOf _ (~~~(encodeByte v 0 m0)) ++ nibbleOf _ (~~~(encodeByte v 1 m1)) ++ nibbleOf _ (~~~(encodeByte v 2 m2))
    ++ nibbleOf _ (~~~(encodeByte v 3 m3)) ++ nibbleOf _ (~~~(encodeByte v 4 m4))
    ++ nibbleOf _ (~~~(encodeByte v 5 m5))).toInt = v.toInt
  rw [nibbleOf_not_encodeByte h0, nibbleOf_not_encodeByte h1, nibbleOf_not_encodeByte h2, nibbleOf_not_encodeByte h3,
    nibbleOf_not_encodeByte h4, nibbleOf_not_encodeByte h5]
  exact congrArg BitVec.toInt (nibbles_append v)

/-- Settles O34: the data bits of each byte settle its nibble. -/
theorem nonDataBitsNeverChangeSample : Obligations.NonDataBitsNeverChangeSample := by
  unfold Obligations.NonDataBitsNeverChangeSample
  intro r q h0 h1 h2 h3 h4 h5
  rw [sampleOf, sampleOf, assemble24, assemble24, nibbleOf_not_congr h0, nibbleOf_not_congr h1, nibbleOf_not_congr h2,
    nibbleOf_not_congr h3, nibbleOf_not_congr h4, nibbleOf_not_congr h5]

end Sys2Proof.Machine
end

section
/-! PROOFS. A reading command's poll loop (R150, R284), the sample cycle that follows a probe that is ready (R151,
R152), and with them READ_ONE's whole run (R160). -/

namespace Sys2Proof.Machine

/-! ## States of a reading command -/

/-- `n` probes that were not ready later: the answers still to come are `rest`, and the log has gained `log`. -/
def polledState (n : Nat) (rest : List BusAnswer) (log : List BusEvent) (s : State) : State :=
  { s with
    polls := s.polls + n
    env := { s.env with script := rest, busLog := log ++ s.env.busLog } }

/-- A probe cycle, logged as `log`, was ready, and the sample transfer after it has received `r`. -/
def sampleReadState (r : Response) (rest : List BusAnswer) (log : List BusEvent) (s : State) : State :=
  { s with
    hopen := true, phase := .xfer .sample
    env := { s.env with
      script := rest
      busLog := (cycleLog (sampleTx s) r.toList).tail ++ log ++ s.env.busLog } }

section
variable {i : Instr} {s : State} {rest : List BusAnswer} (hi : i = .readOne ∨ isAveraging i = true)
  (hd : decode s.cmdL = .command i) (hp : s.phase = .opening .probe) (ho : s.hopen = false) (hs : s.env.sched = [])
include hi hd hp ho hs

/-! ## The poll loop -/

/-- Probes that are not ready, fewer than the limit leaves, lead back to the open of a probe cycle. -/
theorem pollLoop_waits (rs : List Response) (hnot : ∀ r ∈ rs, probeReady r s = false)
    (hlimit : ∀ limit, s.params.pollLimit = some limit → s.polls + rs.length < limit)
    (hscript : s.env.script = cyclesAnswers rs ++ rest) :
    ∃ log, log.length = 4 * rs.length ∧ runFor (4 * rs.length) s = .next (polledState rs.length rest log s) := by
  induction rs generalizing s with
  | nil =>
    obtain rfl : s.env.script = rest := hscript
    exact ⟨[], rfl, rfl⟩
  | cons q qs ih =>
    rw [cyclesAnswers, List.flatMap_cons, List.append_assoc] at hscript
    have hprobe := probeCycle_waits hi hd hp ho hs hscript rfl (hnot q List.mem_cons_self)
      (fun limit hl => by have := hlimit limit hl; simp only [List.length_cons] at this; omega)
    obtain ⟨logs, hlogs, hrun⟩ := ih
      (s := polledState 1 (cyclesAnswers qs ++ rest)
        (cycleLog (probeTx s) (q.toList.take (probeTx s).length)) s) hd hp ho hs
      (fun r hr => hnot r (List.mem_cons_of_mem q hr))
      (fun limit hl => by
        have := hlimit limit hl
        simp only [polledState, List.length_cons] at this ⊢
        omega) rfl
    refine ⟨logs ++ cycleLog (probeTx s) (q.toList.take (probeTx s).length), by simp [hlogs, cycleLog]; omega, ?_⟩
    rw [show 4 * (q :: qs).length = 4 + 4 * qs.length by simp; omega, runFor_add hprobe]
    refine hrun.trans ?_
    simp [polledState, Nat.add_assoc, Nat.add_comm]

/-- As many probes that are not ready as a finite limit allows end the command with NOT_READY. -/
theorem pollLoop_givesUp (rs : List Response) (q : Response) (hnot : ∀ r ∈ rs ++ [q], probeReady r s = false)
    (h0 : s.polls = 0) (hlimit : s.params.pollLimit = some (rs.length + 1))
    (hscript : s.env.script = cyclesAnswers (rs ++ [q]) ++ rest) :
    ∃ log, log.length = 4 * (rs.length + 1) ∧ runFor (4 * (rs.length + 1)) s =
      .next (goto (.finish .notReady) (polledState (rs.length + 1) rest log s)) := by
  rw [cyclesAnswers, List.flatMap_append, List.flatMap_singleton, List.append_assoc] at hscript
  obtain ⟨log, hlog, hwaits⟩ := pollLoop_waits hi hd hp ho hs rs (fun r hr => hnot r (List.mem_append_left _ hr))
    (fun limit hl => by rw [hlimit] at hl; cases hl; omega) hscript
  have hlast := probeCycle_givesUp (s := polledState rs.length (cycleAnswers q ++ rest) log s) hi hd hp ho hs rfl rfl
    (hnot q (by simp)) hlimit (by simp [polledState])
  refine ⟨cycleLog (probeTx s) (q.toList.take (probeTx s).length) ++ log, by simp [hlog, cycleLog]; omega, ?_⟩
  rw [Nat.mul_succ, runFor_add hwaits]
  refine hlast.trans ?_
  simp [polledState, goto, probeTx_congr (s := s), Nat.add_assoc]

/-! ## From a probe that is ready to the receipt of a sample -/

theorem readyProbe_sampleReceived {p r : Response} (hready : probeReady p s = true)
    (hscript : s.env.script = cycleAnswers p ++ (cycleAnswers r ++ rest)) :
    ∃ log, log.length = 4 ∧ runFor 7 s = .next (sampleReceived (planOf i) r (sampleReadState r rest log s)) := by
  have hprobe : runFor 4 s = .next (goto (.opening .sample) (polledState 0 (cycleAnswers r ++ rest)
      (cycleLog (probeTx s) (p.toList.take (probeTx s).length)) s)) :=
    probeCycle_goesOn hi hd hp ho hs hscript rfl hready
  have hread := sampleCycle_received (s := goto (.opening .sample) (polledState 0 (cycleAnswers r ++ rest)
    (cycleLog (probeTx s) (p.toList.take (probeTx s).length)) s)) hi hd rfl ho hs rfl (sampleTx_congr (s := s) rfl)
  have hbytes : r.toList.take (sampleTx s).length = r.toList := List.take_of_length_le (by simp)
  refine ⟨cycleLog (probeTx s) (p.toList.take (probeTx s).length), rfl, ?_⟩
  rw [show 7 = 4 + 3 from rfl, runFor_add hprobe, hread, answeredState_eq, hbytes]
  rfl

/-- Where the receipt of the sample ends the command, the close and the completion follow. -/
theorem readyProbe_lastSample {p r : Response} {code : ErrCode} {received : State → State}
    (hready : probeReady p s = true) (hscript : s.env.script = cycleAnswers p ++ (cycleAnswers r ++ rest))
    (hreceived : ∀ t, sampleReceived (planOf i) r t = goto (.closing .sample (.ends code)) (received t))
    (hkeeps : ∀ t, (received t).cmdL = t.cmdL ∧ (received t).env = t.env ∧ (received t).hopen = t.hopen) :
    ∃ log, log.length = 4 ∧ runFor 9 s = .next (finishStep (planOf i).effect code
      (goto (.finish code) (setHandle false (logBus .closed (received (sampleReadState r rest log s)))))) := by
  obtain ⟨log, hlog, hread⟩ := readyProbe_sampleReceived hi hd hp ho hs hready hscript
  obtain ⟨hcmd, henv, hopen⟩ := hkeeps (sampleReadState r rest log s)
  set u := received (sampleReadState r rest log s) with hu
  rw [hreceived, ← hu] at hread
  have hplan : runningPlan (goto (.closing .sample (.ends code)) u) = planOf i := runningPlan_of_latched hcmd hd
  have hclose := lastClose_run (s := goto (.closing .sample (.ends code)) u) (by rw [goto_env, henv]; exact hs) rfl
    (by rw [hplan, (reading_plan hi).1]; simp) hopen
  rw [hplan] at hclose
  exact ⟨log, hlog, (runFor_add hread).trans hclose⟩

end

/-- READ_ONE's step on a valid sample carries it to FINISH (R159, log 5). -/
theorem sampleReceived_readOne {r : Response} (hv : validResponse r = true) (s : State) :
    sampleReceived (planOf .readOne) r s = goto (.closing .sample (.ends .none))
      { writeRaw r s with val := sampleOf s.params.decodeSelect r } := by
  rw [sampleReceived, if_pos hv]
  rfl

/-! ## The statements -/

/-- Settles O30, by induction on the probes; the last one of a finite limit is the one that gives up. -/
theorem pollLoopRunsUntilReadyOrLimit : Obligations.PollLoopRunsUntilReadyOrLimit := by
  unfold Obligations.PollLoopRunsUntilReadyOrLimit
  intro i s rs rest hi hd hp ho hs hnot hscript
  refine ⟨fun hnone => ?_, fun h0 hne hlimit => ?_⟩
  · obtain ⟨log, hlog, hrun⟩ := pollLoop_waits hi hd hp ho hs rs hnot (fun limit hl => by simp [hnone] at hl) hscript
    exact ⟨log, hrun, hlog⟩
  · obtain ⟨qs, q, rfl⟩ := (List.eq_nil_or_concat' rs).resolve_left hne
    rw [List.length_append, List.length_singleton] at hlimit ⊢
    obtain ⟨log, hlog, hrun⟩ := pollLoop_givesUp hi hd hp ho hs qs q hnot h0 hlimit hscript
    exact ⟨log, hrun.trans (by simp [polledState, goto, h0]), hlog⟩

/-- Settles O35: CHECK, the probes that are not ready, and the cycle pair that ends the command. -/
theorem readOneRunReturnsSample : Obligations.ReadOneRunReturnsSample := by
  unfold Obligations.ReadOneRunReturnsSample
  refine ⟨fun s hp => ?_, fun s busyRs p r rest ⟨hd, hp, ho, hs⟩ hbusy hready hvalid hlimit hscript => ?_⟩
  · rw [exec_finish hp, finishStep_ok]
    rfl
  · have hcheck : step s = .next (goto (.opening .probe) (startPoll s)) := by
      rw [step_check hs hp, runningPlan_of_latched rfl hd, checkStep_ok (i := .readOne) rfl]
      rfl
    rw [List.append_assoc, List.append_assoc] at hscript
    obtain ⟨log, hlog, hwaits⟩ := pollLoop_waits (s := goto (.opening .probe) (startPoll s)) (.inl rfl) hd rfl ho hs
      busyRs hbusy (fun limit hl => by simpa [startPoll] using hlimit limit hl) hscript
    obtain ⟨log', hlog', hlast⟩ := readyProbe_lastSample
      (s := polledState busyRs.length (cycleAnswers p ++ (cycleAnswers r ++ rest)) log
        (goto (.opening .probe) (startPoll s)))
      (.inl rfl) hd rfl ho hs hready rfl (sampleReceived_readOne hvalid) (fun _ => ⟨rfl, rfl, rfl⟩)
    refine ⟨log' ++ log, ?_, by rw [List.length_append, hlog, hlog']; omega⟩
    rw [show 4 * busyRs.length + 10 = 4 * busyRs.length + 9 + 1 from rfl, runFor_succ hcheck, runFor_add hwaits, hlast,
      finishStep_ok]
    simp [sampleReadState, polledState, startPoll, goto, completed, writeRaw, setHandle, logBus, planOf, planReadOne,
      sampleTx, ho, cycleLog]

end Sys2Proof.Machine
end

section
/-! PROOFS. Averages over samples that are read at once: the whole run, and the run that an invalid response cuts short
(R154, R180 to R182, R242). -/

namespace Sys2Proof.Machine

/-! ## The loop while samples are wanted -/

/-- `t` is `s` some samples later in the averaging loop: only ACC, K, RAW and the bus's side have moved, and the answers
still to come are `rest`. -/
def LaterInLoop (rest : List BusAnswer) (s t : State) : Prop :=
  t = { s with
    acc := t.acc, k := t.k, raw0 := t.raw0, raw1 := t.raw1, raw2 := t.raw2
    env := { s.env with script := rest, busLog := t.env.busLog } }

/-- Valid samples, fewer than are wanted, lead back to the open of a probe cycle. -/
theorem averageLoop_goesOn {i : Instr} {s : State} {rest : List BusAnswer} (hi : isAveraging i = true)
    (hd : decode s.cmdL = .command i) (hp : s.phase = .opening .probe) (ho : s.hopen = false) (hs : s.env.sched = [])
    (h0 : s.polls = 0) (rs : List Response) (hvalid : ∀ q ∈ rs, validResponse q = true)
    (hk : (s.k.toNat : Int) + rs.length < countN s) (hscript : s.env.script = rs.flatMap sampleAnswers ++ rest) :
    ∃ t, runFor (8 * rs.length) s = .next t ∧ LaterInLoop rest s t := by
  induction rs generalizing s with
  | nil =>
    obtain rfl : s.env.script = rest := hscript
    exact ⟨s, rfl, rfl⟩
  | cons q qs ih =>
    rw [List.flatMap_cons, List.append_assoc] at hscript
    rw [List.length_cons] at hk
    obtain ⟨log, -, hturn⟩ := averageTurn_more hi hd hp ho hs h0 (hvalid q List.mem_cons_self) hscript (by omega)
    have hcount : (s.k + 1).toNat = s.k.toNat + 1 := k_succ_toNat (by omega)
    obtain ⟨t, hrun, ht⟩ := ih (s := countedState q (qs.flatMap sampleAnswers ++ rest) log s) hd rfl ho hs h0
      (fun p hp => hvalid p (List.mem_cons_of_mem q hp))
      (by simp only [countedState, countN, hcount] at hk ⊢; omega) rfl
    refine ⟨t, ?_, by simpa [LaterInLoop, countedState, hp] using ht⟩
    rw [show 8 * (q :: qs).length = 8 + 8 * qs.length by simp; omega, runFor_add hturn, hrun]

/-- CHECK of an averaging command whose operands are not refused (R181, R243). -/
theorem step_averageCheck {i : Instr} {s : State} (hi : isAveraging i = true) (h : Starting i s)
    (harg : ¬ArgumentError i s) : step s = .next (goto (.opening .probe) (startAverage s)) := by
  obtain ⟨hd, hp, -, hsched⟩ := h
  obtain ⟨hc, hstart, -, -⟩ := averaging_plan hi
  rw [step_check hsched hp, runningPlan_of_latched rfl hd,
    checkStep_cycle (check_eq_of_not_argumentError harg) hc, hstart]

/-- An invalid response ends any command that reads samples, and only RAW is written before its completion (R154). -/
theorem sampleReceived_invalid {r : Response} (hv : validResponse r = false) (c : Plan) (s : State) :
    sampleReceived c r s = goto (.closing .sample (.ends .invalidResponse)) (writeRaw r s) := by
  rw [sampleReceived, hv]
  rfl

/-- The sample that is invalid: its cycle ends, and the command completes with INVALID_RESPONSE (R154, R242). -/
theorem invalidSample_run {i : Instr} {s : State} {bad : Response} {rest : List BusAnswer} (hi : isAveraging i = true)
    (hd : decode s.cmdL = .command i) (hp : s.phase = .opening .probe) (ho : s.hopen = false) (hs : s.env.sched = [])
    (hbad : validResponse bad = false) (hscript : s.env.script = sampleAnswers bad ++ rest) :
    ∃ log, runFor 9 s = .next (completed .invalidResponse (writeRaw bad { s with
      env := { s.env with script := rest, busLog := log ++ s.env.busLog } })) := by
  rw [sampleAnswers, List.append_assoc] at hscript
  obtain ⟨log, -, hlast⟩ := readyProbe_lastSample (.inr hi) hd hp ho hs (zeroResponse_ready s) hscript
    (sampleReceived_invalid hbad _) (fun _ => ⟨rfl, rfl, rfl⟩)
  rw [finishStep_error (by decide)] at hlast
  exact ⟨cycleLog (sampleTx s) bad.toList ++ log, hlast.trans (by
    simp [sampleReadState, completed, goto, setHandle, logBus, writeRaw, cycleLog, ho])⟩

/-! ## The statements -/

/-- Settles O40: the run of the loop, whose sum fits ACC. -/
theorem averageRunReachesFinish : Obligations.AverageRunReachesFinish := by
  unfold Obligations.AverageRunReachesFinish
  intro i s rs r rest hi h harg hlast hn hvalid hscript
  obtain ⟨log, hlog, hrun⟩ := averageRun hi h harg hlast hn hvalid hscript
  exact ⟨_, log, hrun, sampleSum_toInt hn, hlog⟩

/-- Settles O41: CHECK, the loop over the valid samples, and the sample that ends the command with its error. -/
theorem invalidSampleAbortsAverage : Obligations.InvalidSampleAbortsAverage := by
  unfold Obligations.InvalidSampleAbortsAverage
  intro i s rs bad rest hi h harg hn hvalid hbad hscript
  have hcheck := step_averageCheck hi h harg
  obtain ⟨hd, -, ho, hs⟩ := h
  rw [List.append_assoc] at hscript
  obtain ⟨t, hloop, ht⟩ := averageLoop_goesOn (s := goto (.opening .probe) (startAverage s)) hi hd rfl ho hs rfl rs
    hvalid (by simpa [startAverage, startPoll, countN] using hn) hscript
  unfold LaterInLoop at ht
  have hcmd : t.cmdL = s.cmdL := (congrArg State.cmdL ht :)
  have hopen : t.hopen = false := (congrArg State.hopen ht :).trans ho
  have hsched : t.env.sched = [] := (congrArg (·.env.sched) ht :).trans hs
  obtain ⟨log, hlast⟩ := invalidSample_run hi (hcmd ▸ hd) (congrArg State.phase ht :) hopen hsched hbad
    (congrArg (·.env.script) ht :)
  refine ⟨_, (runFor_succ (n := 8 * rs.length + 9) hcheck).trans ((runFor_add hloop).trans hlast), rfl, rfl, rfl, rfl,
    hopen, ?_⟩
  exact ⟨(congrArg State.gain ht :), (congrArg State.offset ht :), (congrArg State.scale ht :),
    (congrArg State.resInt ht :), (congrArg State.resFpLo ht :), (congrArg State.resFpHi ht :), rfl, rfl, rfl, rfl⟩

end Sys2Proof.Machine
end

section
/-! PROOFS. The averaging loop's bounds are kept by every step (R181, R187, R188). While samples are wanted, K is below
n, so a sample is added exactly (`acc_add_sample`) and moves both bounds by what one sample can be; every other step
leaves ACC and K as they are. With the same bounds, the range of an average. -/

namespace Sys2Proof.Machine

/-! ## What the loop's phases ask for -/

/-- In the loop: ACC is within the bounds of K samples, and samples are wanted. -/
def SamplesWanted (s : State) : Prop := AccBound s ∧ (s.k.toNat : Int) < countN s

/-- At its end: ACC is within the bounds of K samples, and K = n. -/
def SamplesComplete (s : State) : Prop := AccBound s ∧ (s.k.toNat : Int) = countN s

/-- The phases in which the loop has a sample still to come: those of a bus cycle whose end does not end the command. -/
def wantsSample : Phase → Bool
  | .idle => false
  | .check => false
  | .opening _ => true
  | .config _ => true
  | .xfer _ => true
  | .closing _ (.again _) => true
  | .closing _ (.ends _) => false
  | .finish _ => false

/-- What `AverageFits` asks of an averaging command, by whether the code it ends with is settled. -/
structure LoopFits (s : State) : Prop where
  wanted : wantsSample s.phase = true → SamplesWanted s
  complete : endingCode s.phase = some .none → SamplesComplete s

theorem endingCode_of_wantsSample {ph : Phase} (h : wantsSample ph = true) : endingCode ph = none := by
  cases ph with
  | idle | check | finish => cases h
  | opening | config | xfer => rfl
  | closing p after =>
    cases after with
    | again => rfl
    | ends => cases h

section
variable {s t : State}

theorem LoopFits.of_wanted (h : wantsSample s.phase = true) (hw : SamplesWanted s) : LoopFits s :=
  ⟨fun _ => hw, by simp [endingCode_of_wantsSample h]⟩

theorem LoopFits.of_ending {code : ErrCode} (h : endingCode s.phase = some code)
    (hc : code = .none → SamplesComplete s) : LoopFits s :=
  ⟨fun hw => by simp [endingCode_of_wantsSample hw] at h, fun he => hc (Option.some.inj (h.symm.trans he))⟩

/-- An ending with an error has no use for ACC any more (R242). -/
theorem LoopFits.of_error {code : ErrCode} (h : endingCode s.phase = some code) (hcode : code ≠ .none) : LoopFits s :=
  .of_ending h fun hnone => absurd hnone hcode

theorem LoopFits.of_idle (h : s.phase = .idle) : LoopFits s := ⟨by simp [h, wantsSample], by simp [h, endingCode]⟩

theorem LoopFits.of_check (h : s.phase = .check) : LoopFits s := ⟨by simp [h, wantsSample], by simp [h, endingCode]⟩

theorem averageFits_iff (s : State) :
    AverageFits s ↔ ∀ i, decode s.cmdL = .command i → isAveraging i = true → LoopFits s := by
  unfold AverageFits
  refine forall₃_congr fun i _ _ => ?_
  cases hp : s.phase with
  | idle => exact iff_of_true trivial (.of_idle hp)
  | check => exact iff_of_true trivial (.of_check hp)
  | opening | config | xfer => exact ⟨.of_wanted (hp ▸ rfl), fun h => h.wanted (hp ▸ rfl)⟩
  | closing p after =>
    cases after with
    | again => exact ⟨.of_wanted (hp ▸ rfl), fun h => h.wanted (hp ▸ rfl)⟩
    | ends => exact ⟨.of_ending (hp ▸ rfl), fun h hcode => h.complete (hp ▸ hcode ▸ rfl)⟩
  | finish => exact ⟨.of_ending (hp ▸ rfl), fun h hcode => h.complete (hp ▸ hcode ▸ rfl)⟩

/-! ## Steps that leave the loop's registers -/

/-- The registers that the loop's bounds speak of. -/
def loopRegs (s : State) : DWord × Word × Word := (s.acc, s.k, s.nL)

theorem SamplesWanted.congr (h : SamplesWanted s) (hregs : loopRegs t = loopRegs s) : SamplesWanted t := by
  obtain ⟨hacc, hk, hn⟩ : t.acc = s.acc ∧ t.k = s.k ∧ t.nL = s.nL := by simpa [loopRegs] using hregs
  simpa only [SamplesWanted, AccBound, countN, hacc, hk, hn] using h

theorem SamplesComplete.congr (h : SamplesComplete s) (hregs : loopRegs t = loopRegs s) : SamplesComplete t := by
  obtain ⟨hacc, hk, hn⟩ : t.acc = s.acc ∧ t.k = s.k ∧ t.nL = s.nL := by simpa [loopRegs] using hregs
  simpa only [SamplesComplete, AccBound, countN, hacc, hk, hn] using h

theorem LoopFits.congr (h : LoopFits s) (hphase : t.phase = s.phase) (hregs : loopRegs t = loopRegs s) : LoopFits t :=
  ⟨fun hw => (h.wanted (hphase ▸ hw)).congr hregs,
    fun he => (h.complete (hphase ▸ he)).congr hregs⟩

/-- An answer that has not come leaves the loop where it is (R291). -/
theorem LoopFits.wait (h : LoopFits s) : LoopFits (dropAnswer s) := h.congr (by simp) (by simp [loopRegs])

end

/-! ## One sample more -/

/-- A sample is a 24-bit value (R158). -/
theorem sampleOf_bounds (sel : DecodeSelect) (r : Response) :
    -8388608 ≤ (sampleOf sel r).toInt ∧ (sampleOf sel r).toInt ≤ 8388607 := by
  have hlo := BitVec.le_toInt (assemble24 sel r[0] r[1] r[2] r[3] r[4] r[5])
  have hhi := BitVec.toInt_lt (x := assemble24 sel r[0] r[1] r[2] r[3] r[4] r[5])
  rw [sampleOf_toInt]
  omega

section
variable {s : State} (h : SamplesWanted s)
include h

/-- Fewer than `2 ^ 31` samples stay far inside the accumulator, so the addition does not wrap (R187). -/
theorem acc_add_sample (sel : DecodeSelect) (r : Response) :
    (s.acc + (sampleOf sel r).signExtend 64).toInt = s.acc.toInt + (sampleOf sel r).toInt := by
  obtain ⟨⟨hlo, hhi⟩, hk⟩ := h
  have hn : s.nL.toInt < 2 ^ 31 := BitVec.toInt_lt
  obtain ⟨hmin, hmax⟩ := sampleOf_bounds sel r
  unfold countN at hk
  rw [BitVec.toInt_add, BitVec.toInt_signExtend_of_le (by decide)]
  exact Int.bmod_eq_of_le (by omega) (by omega)

theorem accBound_accumulate (sel : DecodeSelect) (r : Response) : AccBound (accumulate (sampleOf sel r) s) := by
  have hacc := acc_add_sample h sel r
  obtain ⟨⟨hlo, hhi⟩, hk⟩ := h
  obtain ⟨hmin, hmax⟩ := sampleOf_bounds sel r
  simp only [AccBound, accumulate_acc, accumulate_k, hacc, k_succ_toNat hk]
  omega

/-- The loop's turn wants a further sample, or K has come to n. -/
theorem loopFits_averageSample (sel : DecodeSelect) (r : Response) : LoopFits (averageSample (sampleOf sel r) s) := by
  have hbound := accBound_accumulate h sel r
  obtain ⟨hlt, hturn⟩ | ⟨hge, hturn⟩ := averageSample_cases (sampleOf sel r) s <;> rw [hturn]
  · exact .of_wanted rfl ⟨hbound, hlt⟩
  · refine .of_ending rfl fun _ => ⟨hbound, ?_⟩
    have hk := k_succ_toNat h.2
    have hlt := h.2
    show ((s.k + 1).toNat : Int) = countN s
    omega

theorem loopFits_sampleReceived {c : Plan} (hc : c.sampled = averageSample) (r : Response) :
    LoopFits (sampleReceived c r s) := by
  obtain ⟨-, hr⟩ | ⟨-, hr⟩ := sampleReceived_cases c r s <;> rw [hr]
  · rw [hc]
    exact loopFits_averageSample (s := writeRaw r s) h s.params.decodeSelect r
  · exact .of_error rfl (by decide)

/-- A poll decision adds no sample: it goes on, or gives up with NOT_READY (R150). -/
theorem loopFits_pollDecision (ready : Bool) : LoopFits (pollDecision ready s) := by
  obtain ⟨-, hd⟩ | ⟨-, -, hd⟩ | ⟨-, -, hd⟩ := pollDecision_cases ready s <;> rw [hd]
  · exact .of_wanted rfl (h.congr rfl)
  · exact .of_error rfl (by decide)
  · exact .of_wanted rfl (h.congr rfl)

end

/-! ## Engine steps of an averaging command -/

theorem not_argumentError_of_check {i : Instr} {s : State} (h : (planOf i).check s = .none) : ¬ArgumentError i s :=
  fun harg => by simp [check_eq_of_argumentError harg] at h

/-- An averaging command whose checks pass asks for at least one sample (R180). -/
theorem one_le_countN {i : Instr} {s : State} (hi : isAveraging i = true) (h : (planOf i).check s = .none) :
    1 ≤ countN s := by
  have harg := not_argumentError_of_check h
  cases i with
  | readAvg | getUnits | tare => exact not_lt.mp harg
  | calibrate => exact not_lt.mp fun hn => harg (.inl hn)
  | nop | init | setGain | setOffset | setScale | getOffset | isReady | readOne | close => cases hi

section
variable {i : Instr} {s t : State}

/-- The loop starts from an empty sum, with at least one sample wanted. -/
theorem loopFits_checkStep (hi : isAveraging i = true) (s : State) : LoopFits (checkStep (planOf i) s) := by
  obtain ⟨hc, hstart, -, -⟩ := averaging_plan hi
  by_cases hnone : (planOf i).check s = .none
  · rw [checkStep_cycle hnone hc, hstart]
    have hn := one_le_countN hi hnone
    exact .of_wanted rfl ⟨by simp [AccBound], hn⟩
  · rw [checkStep_error hnone]
    exact .of_error rfl hnone

theorem LoopFits.after_open (hs : LoopFits s) {p : Purpose} (hp : s.phase = .opening p)
    (ho : busOpen p s = .next t) : LoopFits t := by
  have hw := hs.wanted (hp ▸ rfl)
  obtain ⟨-, ⟨-, rfl⟩ | ⟨-, rfl⟩ | ⟨rx, -, rfl⟩⟩ := busOpen_next ho
  · exact hs.wait
  · exact .of_error rfl (by decide)
  · exact .of_wanted rfl (hw.congr (by simp [loopRegs]))

/-- A trial cycle would end here, but an averaging command has none (R124, R180). -/
theorem LoopFits.after_configure (hs : LoopFits s) {p : Purpose} (hp : s.phase = .config p) (hn : p ≠ .trial)
    (ho : busConfigure p s = .next t) : LoopFits t := by
  have hw := hs.wanted (hp ▸ rfl)
  obtain ⟨-, ⟨-, rfl⟩ | ⟨-, rfl⟩ | ⟨rx, -, rfl⟩⟩ := busConfigure_next ho
  · exact hs.wait
  · exact .of_error rfl (by decide)
  · cases p with
    | trial => exact absurd rfl hn
    | probe | sample => exact .of_wanted rfl (hw.congr (by simp [loopRegs, afterConfig]))

theorem LoopFits.after_transfer (hs : LoopFits s) {p : Purpose} {tx : List Byte} {f : Response → State → State}
    (hp : s.phase = .xfer p) (ho : busTransfer p tx f s = .next t)
    (hf : ∀ rx u, SamplesWanted u → LoopFits (f rx u)) : LoopFits t := by
  have hw := hs.wanted (hp ▸ rfl)
  obtain ⟨-, ⟨-, rfl⟩ | ⟨-, rfl⟩ | ⟨rx, -, rfl⟩⟩ := busTransfer_next ho
  · exact hs.wait
  · exact .of_error rfl (by decide)
  · exact hf rx _ (hw.congr (by simp [loopRegs]))

/-- A close leads on to what was settled before it. -/
theorem LoopFits.after_close (hs : LoopFits s) {p : Purpose} {after : After} (hp : s.phase = .closing p after)
    (ho : busClose after s = .next t) : LoopFits t := by
  obtain ⟨-, rfl⟩ := busClose_next ho
  cases after with
  | again q => exact .of_wanted rfl ((hs.wanted (hp ▸ rfl)).congr rfl)
  | ends code =>
    refine .of_ending (code := code) rfl ?_
    rintro rfl
    exact (hs.complete (hp ▸ rfl)).congr rfl

theorem LoopFits.after_runPlan (hs : LoopFits s) (hi : isAveraging i = true) (h : runPlan (planOf i) s = .next t) :
    LoopFits t := by
  obtain ⟨hc, -, hprobed, hsampled⟩ := averaging_plan hi
  obtain ⟨-, rfl⟩ | ⟨-, rfl⟩ | ⟨p, hp, -, ho⟩ | ⟨p, hp, hm, ho⟩ | ⟨hp, -, ho⟩ | ⟨hp, -, ho⟩ | ⟨p, after, hp, -, ho⟩ |
    ⟨code, -, rfl⟩ := runPlan_next h
  · exact hs
  · exact loopFits_checkStep hi s
  · exact hs.after_open hp ho
  · have hn : p ≠ .trial := by
      rintro rfl
      simp [hc] at hm
    exact hs.after_configure hp hn ho
  · exact hs.after_transfer hp ho fun rx u hu => hprobed ▸ loopFits_pollDecision hu _
  · exact hs.after_transfer hp ho fun rx u hu => loopFits_sampleReceived hu hsampled rx
  · exact hs.after_close hp ho
  · exact .of_idle rfl

end

/-! ## The machine's steps -/

section
variable {s t : State} (hs : AverageFits s)
include hs

theorem AverageFits.loopFits {i : Instr} (hd : decode s.cmdL = .command i) (hi : isAveraging i = true) : LoopFits s :=
  (averageFits_iff s).mp hs i hd hi

theorem AverageFits.congr (hcmd : t.cmdL = s.cmdL) (hphase : t.phase = s.phase) (hregs : loopRegs t = loopRegs s) :
    AverageFits t :=
  (averageFits_iff t).mpr fun _ hd hi => (hs.loopFits (hcmd ▸ hd) hi).congr hphase hregs

theorem AverageFits.of_hostBlanked (h : hostBlanked t = hostBlanked s) : AverageFits t :=
  hs.congr (congrArg State.cmdL h :) (congrArg State.phase h :) (congrArg loopRegs h :)

theorem AverageFits.after_engineStep (h : engineStep s = .next t) : AverageFits t := by
  have hcmd : t.cmdL = s.cmdL := (congrArg State.cmdL (engineBlanked_engineStep h) :)
  refine (averageFits_iff t).mpr fun i hd hi => ?_
  rw [hcmd] at hd
  rw [engineStep_of_decode hd, exec_eq_runPlan] at h
  exact (hs.loopFits hd hi).after_runPlan hi h

theorem AverageFits.after_writeCmd (v : Word) : AverageFits (writeCmd v s) := by
  obtain ⟨-, h⟩ | ⟨-, h⟩ := writeCmd_cases v s <;> rw [h]
  · exact hs.congr rfl rfl rfl
  · exact (averageFits_iff _).mpr fun _ _ _ => .of_check rfl

end

/-! ## The average -/

/-- A mean of n values lies between the bounds of each, truncated or not (R188). -/
theorem tdiv_bounds {a n lo hi : Int} (hn : 1 ≤ n) (hlo : lo * n ≤ a) (hhi : a ≤ hi * n) :
    lo ≤ a.tdiv n ∧ a.tdiv n ≤ hi := by
  have hlo' := Int.tdiv_le_tdiv (c := n) (by omega) hlo
  have hhi' := Int.tdiv_le_tdiv (c := n) (by omega) hhi
  rw [Int.mul_tdiv_cancel _ (by omega)] at hlo' hhi'
  exact ⟨hlo', hhi'⟩

/-! ## The statements -/

/-- Settles O59, by the five kinds of step. -/
theorem stepKeepsAccumulatorBounds : Obligations.StepKeepsAccumulatorBounds := by
  unfold Obligations.StepKeepsAccumulatorBounds
  intro s t _ hs h
  cases stepKind_of_step h with
  | engine u _ hu h => exact (hs.of_hostBlanked hu).after_engineStep h
  | reset rest _ h => exact (averageFits_iff t).mpr fun _ _ _ => .of_idle (h ▸ rfl)
  | command v rest u _ hu h => exact h ▸ (hs.of_hostBlanked hu).after_writeCmd v
  | status v rest u _ hu h => exact h ▸ (hs.of_hostBlanked hu).congr rfl rfl rfl
  | host h => exact hs.of_hostBlanked h

/-- Settles O43: while samples are wanted an addition is exact, and at FINISH the bounds are those of n samples. -/
theorem averageStaysInSampleRange : Obligations.AverageStaysInSampleRange := by
  unfold Obligations.AverageStaysInSampleRange
  intro s i hcoh hs hd hi
  have hloop := hs.loopFits hd hi
  refine ⟨fun hp r => ?_, fun hp => ?_⟩
  · exact acc_add_sample (hloop.wanted (hp ▸ rfl)) s.params.decodeSelect r
  · obtain ⟨⟨hlo, hhi⟩, hk⟩ := hloop.complete (hp ▸ rfl)
    have hcheck := hcoh.at_finish hp rfl
    rw [runningPlan_of_latched rfl hd] at hcheck
    rw [hk] at hlo hhi
    obtain ⟨hmin, hmax⟩ := tdiv_bounds (one_le_countN hi hcheck) hlo hhi
    have hexact : (averageRaw s).toInt = s.acc.toInt.tdiv (countN s) :=
      BitVec.toInt_ofInt_eq_self (by decide) (by unfold quot; omega) (by unfold quot; omega)
    exact ⟨hexact, hexact ▸ hmin, hexact ▸ hmax⟩

end Sys2Proof.Machine
end

section
/-! PROOFS. The calibration datapath's values: the special cases of a division (R191), the NaN a NaN result takes (log
10), the truncated quotient and the wrapping offset subtraction (R189, R190); and the completions of READ_AVG, TARE and
CALIBRATE (R183, R185, R186). -/

namespace Sys2Proof.Machine

/-! ## Classes of binary64 values -/

theorem f64IsFinite_of_zero {x : DWord} (h : f64IsZero x = true) : f64IsFinite x = true := by
  simp_all [f64IsZero, f64IsFinite]

theorem f64IsNan_of_inf {x : DWord} (h : f64IsInf x = true) : f64IsNan x = false := by
  simp_all [f64IsInf, f64IsNan]

theorem f64_class (x : DWord) : f64IsNan x = true ∨ f64IsInf x = true ∨ f64IsFinite x = true := by
  by_cases hexp : f64Exp x = 2047 <;> by_cases hfrac : f64Frac x = 0 <;>
    simp [f64IsNan, f64IsInf, f64IsFinite, hexp, hfrac]

theorem f64IsInf_inf (neg : Bool) : f64IsInf (f64Inf neg) = true := (f64IsInf_pack neg le_rfl).mpr le_rfl

theorem f64IsZero_zero (neg : Bool) : f64IsZero (f64Zero neg) = true := by
  rw [f64IsZero, f64Zero, f64Exp_pack neg (by decide), f64Frac_pack neg (by decide)]
  rfl

/-! ## The division, class by class -/

section
variable {a b : DWord}

theorem f64Div_nan (h : f64IsNan a = true ∨ f64IsNan b = true) : f64Div a b = none := by
  simp [f64Div, h]

theorem f64Div_inf_inf (ha : f64IsInf a = true) (hb : f64IsInf b = true) : f64Div a b = none := by
  simp [f64Div, ha, hb]

theorem f64Div_zero_zero (ha : f64IsZero a = true) (hb : f64IsZero b = true) : f64Div a b = none := by
  simp [f64Div, f64IsInf_of_finite, f64IsFinite_of_zero, ha, hb]

theorem f64Div_inf_finite (ha : f64IsInf a = true) (hb : f64IsFinite b = true) :
    f64Div a b = some (f64Inf (f64Neg a != f64Neg b)) := by
  simp [f64Div, f64IsNan_of_inf, f64IsNan_of_finite, f64IsInf_of_finite, ha, hb]

theorem f64Div_finite_inf (ha : f64IsFinite a = true) (hb : f64IsInf b = true) :
    f64Div a b = some (f64Zero (f64Neg a != f64Neg b)) := by
  simp [f64Div, f64IsNan_of_inf, f64IsNan_of_finite, f64IsInf_of_finite, ha, hb]

theorem f64Div_nonzero_zero (ha : f64IsFinite a = true) (hz : f64IsZero a = false) (hb : f64IsZero b = true) :
    f64Div a b = some (f64Inf (f64Neg a != f64Neg b)) := by
  have hfin := f64IsFinite_of_zero hb
  simp [f64Div, f64IsNan_of_finite, f64IsInf_of_finite, ha, hz, hb, hfin]

/-- A NaN results only from a NaN, from ∞/∞ and from 0/0: every other pair of classes has a quotient. -/
theorem f64Div_eq_none_iff : f64Div a b = none ↔
    f64IsNan a = true ∨ f64IsNan b = true ∨ (f64IsZero a = true ∧ f64IsZero b = true) ∨
      (f64IsInf a = true ∧ f64IsInf b = true) := by
  constructor
  · intro h
    obtain ha | ha | ha := f64_class a
    · exact .inl ha
    · obtain hb | hb | hb := f64_class b
      · exact .inr (.inl hb)
      · exact .inr (.inr (.inr ⟨ha, hb⟩))
      · simp [f64Div_inf_finite ha hb] at h
    · obtain hb | hb | hb := f64_class b
      · exact .inr (.inl hb)
      · simp [f64Div_finite_inf ha hb] at h
      · cases hbz : f64IsZero b with
        | false => simp [f64Div_of_finite ha hb hbz] at h
        | true =>
          cases haz : f64IsZero a with
          | false => simp [f64Div_nonzero_zero ha haz hbz] at h
          | true => exact .inr (.inr (.inl ⟨rfl, rfl⟩))
  · rintro (h | h | ⟨ha, hb⟩ | ⟨ha, hb⟩)
    · exact f64Div_nan (.inl h)
    · exact f64Div_nan (.inr h)
    · exact f64Div_zero_zero ha hb
    · exact f64Div_inf_inf ha hb

end

/-! ## NaN encodings -/

/-- The sign and the fraction of a NaN give its encoding back. -/
theorem nanBits_of_nan {x : DWord} (h : f64IsNan x = true) :
    nanBits (x.getLsbD 63) (x.extractLsb' 0 52) = x := by
  obtain ⟨hexp, hfrac⟩ : x.extractLsb' 52 11 = 0x7FF#11 ∧ x.extractLsb' 0 52 ≠ 0#52 := by
    simpa [f64IsNan, f64Exp, f64Frac, ← BitVec.toNat_inj] using h
  have hsign : BitVec.ofBool (x.getLsbD 63) = x.extractLsb' 63 1 := by
    refine BitVec.eq_of_getLsbD_eq fun i hi => ?_
    obtain rfl : i = 0 := by omega
    simp
  rw [nanBits, if_neg hfrac, ← hexp, hsign, BitVec.extractLsb'_append_extractLsb'_eq_extractLsb' (by rfl),
    BitVec.extractLsb'_append_extractLsb'_eq_extractLsb' (by rfl)]
  exact BitVec.extractLsb'_eq_self

/-! ## The integer results -/

/-- Truncation toward zero: the sign of the dividend on the quotient of the magnitudes (R190). -/
theorem quot_eq_sign_mul {a b : Int} (hb : 1 ≤ b) : quot a b = a.sign * ((a.natAbs / b.natAbs : Nat) : Int) := by
  obtain ⟨m, rfl⟩ := Int.eq_ofNat_of_zero_le (by omega : 0 ≤ b)
  have hnat (n : Nat) : quot n m = (n : Int).sign * ((n / m : Nat) : Int) := by
    rcases n.eq_zero_or_pos with rfl | hn
    · simp [quot]
    · rw [Int.sign_eq_one_of_pos (by exact_mod_cast hn), Int.one_mul]
      rfl
  obtain ⟨n, rfl | rfl⟩ := a.eq_nat_or_neg
  · exact hnat n
  · rw [quot, Int.neg_tdiv, Int.sign_neg, Int.neg_mul, Int.natAbs_neg]
    exact congrArg Neg.neg (hnat n)

theorem minusOffset_toInt (a : Word) (s : State) :
    (minusOffset a s).toInt = (a.toInt - s.offset.toInt).bmod (2 ^ 32) := BitVec.toInt_sub

/-- Away from the ends of the `s32` range an average's offset subtraction does not wrap (R189). -/
theorem minusOffset_exact {a : Word} {s : State} (hlo : -8388608 ≤ a.toInt) (hhi : a.toInt ≤ 8388607)
    (hmin : -2147483648 + 8388608 ≤ s.offset.toInt) (hmax : s.offset.toInt ≤ 2147483647 - 8388608) :
    (minusOffset a s).toInt = a.toInt - s.offset.toInt := by
  rw [minusOffset_toInt]
  exact Int.bmod_eq_of_le (by omega) (by omega)

/-! ## The statements -/

/-- Settles O36: the completion's effect is the average less OFFSET. -/
theorem readAvgWritesAverageMinusOffset : Obligations.ReadAvgWritesAverageMinusOffset := by
  unfold Obligations.ReadAvgWritesAverageMinusOffset
  intro s hp
  rw [exec_finish hp, finishStep_ok]
  rfl

/-- Settles O37: the completion's effect is the average alone. -/
theorem tareWritesAverageToOffset : Obligations.TareWritesAverageToOffset := by
  unfold Obligations.TareWritesAverageToOffset
  intro s hp
  rw [exec_finish hp, finishStep_ok]
  rfl

/-- Settles O39: the quotient is written as it is, and past CALIBRATE's checks both operands are finite and knownUnits
is not zero, so there is one. -/
theorem calibrateWritesScale : Obligations.CalibrateWritesScale := by
  unfold Obligations.CalibrateWritesScale
  rintro s b hp rfl
  refine ⟨fun q hq => ?_, fun hs hd => ?_⟩
  · have hquot : scaleQuotient s = some q := hq
    rw [exec_finish hp, finishStep_ok]
    simp only [planOf, planCalibrate, averagePlan, hquot]
    rfl
  · have hcheck := hs.at_finish hp rfl
    rw [runningPlan_of_latched rfl hd] at hcheck
    have harg := not_argumentError_of_check hcheck
    simp only [ArgumentError, f64_exponent_ones_iff, f64_magnitude_eq_zero_iff, not_or] at harg
    obtain ⟨-, hfin, hzero⟩ := harg
    exact ⟨_, f64Div_of_finite (integerConversionIsExact.1 _).1 (by simpa using hfin) (by simpa using hzero)⟩

/-- Settles O44: truncation by the sign of the dividend, and the difference modulo `2 ^ 32`. -/
theorem quotTruncatesAndOffsetWraps : Obligations.QuotTruncatesAndOffsetWraps := by
  unfold Obligations.QuotTruncatesAndOffsetWraps
  refine ⟨fun a b => quot_eq_sign_mul, by decide, by decide, by decide, by decide, by decide, minusOffset_toInt,
    fun a s hlo hhi hwrap => ?_, fun s hs => ?_⟩
  · by_contra hoff
    obtain ⟨hmin, hmax⟩ := not_or.mp hoff
    exact hwrap (minusOffset_exact hlo hhi (not_lt.mp hmin) (not_lt.mp hmax))
  · rw [minusOffset, hs]
    decide

/-- Settles O46, by the classes of the two operands. -/
theorem divisionSpecialCases : Obligations.DivisionSpecialCases := by
  unfold Obligations.DivisionSpecialCases
  refine ⟨fun a b => f64Div_eq_none_iff, fun a b ha hz hb => ?_, fun a b ha hb => ?_, fun a b ha hb => ?_⟩
  · exact ⟨_, f64Div_nonzero_zero ha hz hb, f64IsInf_inf _, f64Neg_pack _⟩
  · exact ⟨_, f64Div_finite_inf ha hb, f64IsZero_zero _, f64Neg_pack _⟩
  · exact ⟨_, f64Div_inf_finite ha hb, f64IsInf_inf _, f64Neg_pack _⟩

/-- Settles O48: every drawn encoding is a NaN's, and a NaN is drawn by its own sign and fraction. -/
theorem drawnNanIsAnyNanEncoding : Obligations.DrawnNanIsAnyNanEncoding := by
  unfold Obligations.DrawnNanIsAnyNanEncoding
  refine ⟨fun s => f64IsNan_nanBits _ _, fun x => ⟨fun h => ⟨_, _, nanBits_of_nan h⟩, ?_⟩⟩
  rintro ⟨neg, frac, rfl⟩
  exact f64IsNan_nanBits neg frac

end Sys2Proof.Machine
end

section
/-! PROOFS. The commands that complete in CHECK and FINISH with no argument to check: NOP and CLOSE (R210, R216), and
SET_OFFSET, SET_SCALE and GET_OFFSET (R213 to R215). -/

namespace Sys2Proof.Machine

/-! ## One equation per step -/

/-- The completion without an error, of any command (R241). -/
theorem exec_success {s : State} (hp : s.phase = .finish .none) (i : Instr) :
    exec i s = .next (completed .none ((planOf i).effect s)) := by
  rw [exec_finish hp, finishStep_ok]

/-- CHECK of a command without a bus cycle and without an argument error is its only step before FINISH (R217). -/
theorem exec_check_accessor {i : Instr} {s : State} (hcycles : (planOf i).cycles = []) (harg : ¬ArgumentError i s)
    (hp : s.phase = .check) : exec i s = .next (goto (.finish .none) s) := by
  rw [exec_eq_runPlan, runPlan_check hp, checkStep_accessor (check_eq_of_not_argumentError harg) hcycles]

/-- The two commands with no check and no effect (R210, R216). -/
theorem planOf_nop_or_close {i : Instr} (h : i = .nop ∨ i = .close) : planOf i = accessorPlan noCheck id := by
  obtain rfl | rfl := h <;> rfl

theorem not_argumentError_nop_or_close {i : Instr} (h : i = .nop ∨ i = .close) (s : State) : ¬ArgumentError i s := by
  obtain rfl | rfl := h <;> exact not_false

/-! ## The statements -/

/-- Settles O19: both commands have the plan with no effect, so that only the completion writes. -/
theorem nopAndCloseWriteOnlyStatus : Obligations.NopAndCloseWriteOnlyStatus := by
  unfold Obligations.NopAndCloseWriteOnlyStatus
  refine ⟨by decide, by decide, fun i s hi => ?_⟩
  have hplan := planOf_nop_or_close hi
  have harg := not_argumentError_nop_or_close hi s
  refine ⟨fun hp => ?_, fun hp => ?_, fun h => ?_⟩
  · rw [exec_check_accessor (by rw [hplan]; rfl) harg hp]
    rfl
  · rw [exec_success hp, hplan]
    rfl
  · rw [accessor_run h hplan harg]
    rfl

/-- Settles O22: each plan's effect moves one register, and no value of it is an argument error. -/
theorem accessorsMoveOneRegister : Obligations.AccessorsMoveOneRegister := by
  unfold Obligations.AccessorsMoveOneRegister
  refine ⟨by decide, by decide, by decide, fun s => ⟨fun hp => ?_, fun h => ?_, fun h => ?_, fun h => ?_⟩⟩
  · exact ⟨exec_success hp .setOffset, exec_success hp .setScale, exec_success hp .getOffset⟩
  · exact accessor_run h rfl not_false
  · exact accessor_run h rfl not_false
  · exact accessor_run h rfl not_false

end Sys2Proof.Machine
end

section
/-! PROOFS. When a command starts and when it ends. A CMD write starts one on an idle engine and is rejected by a busy
one (R246, R247); BUSY falls only by the completion or by reset (R248, R272). -/

namespace Sys2Proof.Machine

/-! ## How BUSY changes -/

/-- A CMD write while BUSY = 1 is rejected (R247). -/
theorem step_command_busy {s : State} {v : Word} {rest : List HostMove} (hb : s.busy = true)
    (h : s.env.sched = .write 0x00 4 v :: rest) :
    step s = .next { accessed (.wrote 0x00 v) rest s with ovr := true } :=
  (step_write h rfl).trans (congrArg Host.Outcome.next (if_pos hb))

/-- An engine step leaves BUSY, or is the completion (R241). -/
theorem busy_engineStep {s t : State} (h : engineStep s = .next t) :
    t.busy = s.busy ∨ t.busy = false ∧ ∃ code, s.phase = .finish code ∧ t.err = code := by
  rw [engineStep_eq_runPlan] at h
  obtain ⟨code, hp, rfl⟩ | hf | ⟨-, -, r, hf⟩ := runPlan_frame (runningPlan_frame s) h
  · exact .inr ⟨rfl, code, hp, rfl⟩
  all_goals exact .inl (congrArg State.busy hf :)

/-- BUSY stays, falls by reset or by the completion, or rises by a CMD write to an idle engine. -/
theorem busy_step {s t : State} (h : step s = .next t) :
    t.busy = s.busy ∨
    (t.busy = false ∧ ∃ rest, s.env.sched = .reset :: rest) ∨
    (t.busy = false ∧ (s.env.sched = [] ∨ ∃ rest, s.env.sched = .engine :: rest) ∧
      ∃ code, s.phase = .finish code ∧ t.err = code) ∨
    (t.busy = true ∧ ∃ v rest, s.env.sched = .write 0x00 4 v :: rest ∧ t.cmdL = v) := by
  cases stepKind_of_step h with
  | engine u hsched hu h =>
    obtain hkeep | ⟨hb, code, hp, herr⟩ := busy_engineStep h
    · exact .inl (hkeep.trans (congrArg State.busy hu :))
    · have hphase : u.phase = s.phase := (congrArg State.phase hu :)
      exact .inr (.inr (.inl ⟨hb, hsched, code, hphase ▸ hp, herr⟩))
  | reset rest hsched h => exact .inr (.inl ⟨h ▸ rfl, rest, hsched⟩)
  | command v rest u hsched hu h =>
    obtain ⟨-, hw⟩ | ⟨-, hw⟩ := writeCmd_cases v u <;> rw [h, hw]
    · exact .inl (congrArg State.busy hu :)
    · exact .inr (.inr (.inr ⟨rfl, v, rest, hsched, rfl⟩))
  | status v rest u hsched hu h => exact .inl (h ▸ (congrArg State.busy hu :))
  | host h => exact .inl (congrArg State.busy h :)

/-! ## The statements -/

/-- Settles O6. -/
theorem commandWriteIsAccepted : Obligations.CommandWriteIsAccepted := by
  unfold Obligations.CommandWriteIsAccepted
  intro s v rest hb h
  exact step_command hb h

/-- Settles O7. -/
theorem commandWriteWhileBusyIsRejected : Obligations.CommandWriteWhileBusyIsRejected := by
  unfold Obligations.CommandWriteWhileBusyIsRejected
  intro s v rest hb h
  exact step_command_busy hb h

/-- Settles O51: of the ways BUSY can go, two leave it 0 and one leaves it 1. -/
theorem commandEndsOnlyByFinishOrReset : Obligations.CommandEndsOnlyByFinishOrReset := by
  unfold Obligations.CommandEndsOnlyByFinishOrReset
  intro s t _ h
  obtain hkeep | ⟨hclear, hreset⟩ | ⟨hclear, hfinish⟩ | ⟨hset, hcommand⟩ := busy_step h
  · exact ⟨fun h1 h0 => absurd (hkeep.symm.trans h0) (by simp [h1]),
      fun h0 h1 => absurd (hkeep.symm.trans h1) (by simp [h0])⟩
  · exact ⟨fun _ _ => .inl hreset, fun _ h1 => absurd (hclear.symm.trans h1) (by decide)⟩
  · exact ⟨fun _ _ => .inr hfinish, fun _ h1 => absurd (hclear.symm.trans h1) (by decide)⟩
  · exact ⟨fun _ h0 => absurd (hset.symm.trans h0) (by decide), fun _ _ => hcommand⟩

end Sys2Proof.Machine
end

section
/-! PROOFS. The code that a command ends with (R240, R258). It is settled in CHECK or in the step that receives an
answer, and is then carried to FINISH. What each plan may settle on is compared with the table of R240 (`PlanRaises`),
and every step keeps it there (`EndsWithin.after_runPlan`). -/

namespace Sys2Proof.Machine

/-! ## The codes of R240 -/

theorem none_mem_raisable (i : Instr) : .none ∈ raisable i := by
  cases i <;> exact List.mem_cons_self

/-- Every command that can have an argument error names INVALID_ARGUMENT. -/
theorem invalidArgument_mem_raisable {i : Instr} {s : State} (h : ArgumentError i s) :
    .invalidArgument ∈ raisable i := by
  cases i with
  | nop | setOffset | setScale | getOffset | isReady | readOne | close => exact h.elim
  | init | setGain | readAvg | getUnits | tare | calibrate => simp [raisable]

/-- Every command with a bus cycle names BUS_UNAVAILABLE. -/
theorem busUnavailable_mem_raisable {i : Instr} {p : Purpose} (h : p ∈ (planOf i).cycles) :
    .busUnavailable ∈ raisable i := by
  cases i with
  | nop | setGain | setOffset | setScale | getOffset | close => exact absurd h List.not_mem_nil
  | init | isReady | readOne | readAvg | getUnits | tare | calibrate => simp [raisable]

/-- Every command with a transfer names TRANSFER_FAILED. -/
theorem transferFailed_mem_raisable {i : Instr} {p : Purpose} (h : p ∈ (planOf i).cycles) (hp : p ≠ .trial) :
    .transferFailed ∈ raisable i := by
  cases i with
  | nop | setGain | setOffset | setScale | getOffset | close => exact absurd h List.not_mem_nil
  | init => exact absurd (List.mem_singleton.mp h) hp
  | isReady | readOne | readAvg | getUnits | tare | calibrate => simp [raisable]

/-- Every command that reads samples names INVALID_RESPONSE. -/
theorem invalidResponse_mem_raisable {i : Instr} (h : .sample ∈ (planOf i).cycles) : .invalidResponse ∈ raisable i := by
  cases i with
  | nop | setGain | setOffset | setScale | getOffset | close => exact absurd h List.not_mem_nil
  | init | isReady => exact absurd (List.mem_singleton.mp h) (by decide)
  | readOne | readAvg | getUnits | tare | calibrate => simp [raisable]

/-- The codes R240 lets the latched word end with. -/
def runningCodes (s : State) : List ErrCode :=
  match decode s.cmdL with
  | .command i => raisable i
  | .illegal _ => [.illegalCmd]

theorem runningCodes_congr {s t : State} (h : t.cmdL = s.cmdL) : runningCodes t = runningCodes s := by
  simp [runningCodes, h]

/-! ## A settled ending -/

/-- Where the command's end is settled, its code is one of `codes`, and NOT_READY needs a finite `POLL_LIMIT`. -/
def EndsWithin (codes : List ErrCode) (s : State) : Prop :=
  ∀ code, endingCode s.phase = some code → code ∈ codes ∧ (code = .notReady → s.params.pollLimit ≠ none)

theorem codesFit_iff (s : State) : CodesFit s ↔ EndsWithin (runningCodes s) s := by
  unfold CodesFit EndsWithin runningCodes
  cases decode s.cmdL with
  | command i => exact Iff.rfl
  | illegal why => simp only [List.mem_singleton]

section
variable {codes : List ErrCode} {s t : State}

theorem EndsWithin.of_running (h : endingCode s.phase = none) : EndsWithin codes s :=
  fun _ hcode => by simp [h] at hcode

theorem EndsWithin.of_ending {code : ErrCode} (h : endingCode s.phase = some code) (hm : code ∈ codes)
    (hlimit : code = .notReady → s.params.pollLimit ≠ none) : EndsWithin codes s := by
  intro code' hcode'
  obtain rfl := Option.some.inj (h.symm.trans hcode')
  exact ⟨hm, hlimit⟩

theorem EndsWithin.congr (hs : EndsWithin codes s) (hending : endingCode t.phase = endingCode s.phase)
    (hparams : t.params = s.params) : EndsWithin codes t := by
  unfold EndsWithin
  rw [hending, hparams]
  exact hs

/-- The poll loop settles on an end only where a finite limit is used up (R150). -/
theorem endsWithin_pollDecision (h : .notReady ∈ codes) (ready : Bool) (s : State) :
    EndsWithin codes (pollDecision ready s) := by
  obtain ⟨-, hd⟩ | ⟨-, ⟨limit, hlimit, -⟩, hd⟩ | ⟨-, -, hd⟩ := pollDecision_cases ready s <;> rw [hd]
  · exact .of_running rfl
  · exact .of_ending rfl h fun _ => by simp [hlimit]
  · exact .of_running rfl

/-- The averaging loop ends without an error (R181). -/
theorem endsWithin_averageSample (h : .none ∈ codes) (v : Word) (s : State) :
    EndsWithin codes (averageSample v s) := by
  obtain ⟨-, hd⟩ | ⟨-, hd⟩ := averageSample_cases v s <;> rw [hd]
  · exact .of_running rfl
  · exact .of_ending rfl h nofun

end

/-! ## What the steps of a plan settle on -/

/-- Every code the steps of a plan can settle on is one of `codes`. -/
structure PlanRaises (c : Plan) (codes : List ErrCode) : Prop where
  check : ∀ s, c.check s ∈ codes ∧ c.check s ≠ .notReady
  success : .trial ∈ c.cycles → .none ∈ codes
  busUnavailable : ∀ p ∈ c.cycles, .busUnavailable ∈ codes
  transferFailed : ∀ p ∈ c.cycles, p ≠ .trial → .transferFailed ∈ codes
  invalidResponse : .sample ∈ c.cycles → .invalidResponse ∈ codes
  probed : .probe ∈ c.cycles → ∀ ready s, EndsWithin codes (c.probed ready s)
  sampled : .sample ∈ c.cycles → ∀ v s, EndsWithin codes (c.sampled v s)

theorem planOf_check_raises (i : Instr) (s : State) :
    (planOf i).check s ∈ raisable i ∧ (planOf i).check s ≠ .notReady := by
  by_cases h : ArgumentError i s
  · rw [check_eq_of_argumentError h]
    exact ⟨invalidArgument_mem_raisable h, nofun⟩
  · rw [check_eq_of_not_argumentError h]
    exact ⟨none_mem_raisable i, nofun⟩

theorem planOf_probed_raises {i : Instr} (h : .probe ∈ (planOf i).cycles) (ready : Bool) (s : State) :
    EndsWithin (raisable i) ((planOf i).probed ready s) := by
  cases i with
  | nop | setGain | setOffset | setScale | getOffset | close => exact absurd h List.not_mem_nil
  | init => exact absurd (List.mem_singleton.mp h) (by decide)
  | isReady => exact .of_ending rfl (none_mem_raisable .isReady) nofun
  | readOne | readAvg | getUnits | tare | calibrate => exact endsWithin_pollDecision (by decide) ready s

theorem planOf_sampled_raises {i : Instr} (h : .sample ∈ (planOf i).cycles) (v : Word) (s : State) :
    EndsWithin (raisable i) ((planOf i).sampled v s) := by
  obtain rfl | ha := reads_of_sample_mem h
  · exact .of_ending rfl (none_mem_raisable .readOne) nofun
  · obtain ⟨-, -, -, hsampled⟩ := averaging_plan ha
    rw [hsampled]
    exact endsWithin_averageSample (none_mem_raisable i) v s

theorem planOf_raises (i : Instr) : PlanRaises (planOf i) (raisable i) where
  check := planOf_check_raises i
  success _ := none_mem_raisable i
  busUnavailable _ := busUnavailable_mem_raisable
  transferFailed _ := transferFailed_mem_raisable
  invalidResponse := invalidResponse_mem_raisable
  probed := planOf_probed_raises
  sampled := planOf_sampled_raises

/-- An illegal word's command ends in CHECK, and has no bus cycle (R95, R243). -/
theorem illegalPlan_raises : PlanRaises illegalPlan [.illegalCmd] where
  check _ := ⟨List.mem_singleton_self _, nofun⟩
  success h := absurd h List.not_mem_nil
  busUnavailable _ h := absurd h List.not_mem_nil
  transferFailed _ h := absurd h List.not_mem_nil
  invalidResponse h := absurd h List.not_mem_nil
  probed h := absurd h List.not_mem_nil
  sampled h := absurd h List.not_mem_nil

theorem runningPlan_raises (s : State) : PlanRaises (runningPlan s) (runningCodes s) := by
  unfold runningPlan runningCodes
  cases decode s.cmdL with
  | command i => exact planOf_raises i
  | illegal why => exact illegalPlan_raises

/-! ## Engine steps -/

section
variable {c : Plan} {codes : List ErrCode} {s t : State} (hc : PlanRaises c codes)

/-- What follows a close is what was settled before it. -/
theorem endingCode_phaseAfter (p : Purpose) (after : After) :
    endingCode (phaseAfter after) = endingCode (.closing p after) := by
  cases after <;> rfl

/-- An answer that has not come leaves what is settled (R291). -/
theorem EndsWithin.wait (hs : EndsWithin codes s) : EndsWithin codes (dropAnswer s) := hs.congr (by simp) (by simp)

theorem EndsWithin.after_close (hs : EndsWithin codes s) {p : Purpose} {after : After} (hp : s.phase = .closing p after)
    (ho : busClose after s = .next t) : EndsWithin codes t := by
  obtain ⟨-, rfl⟩ := busClose_next ho
  exact hs.congr ((endingCode_phaseAfter p after).trans (hp ▸ rfl)) rfl

include hc

theorem endsWithin_checkStep (s : State) : EndsWithin codes (checkStep c s) := by
  obtain ⟨hm, hlimit⟩ := hc.check s
  by_cases hnone : c.check s = .none
  · cases hcycles : c.cycles with
    | nil =>
      rw [checkStep_accessor hnone hcycles]
      exact .of_ending rfl (hnone ▸ hm) nofun
    | cons p ps =>
      rw [checkStep_cycle hnone hcycles]
      exact .of_running rfl
  · rw [checkStep_error hnone]
    exact .of_ending rfl hm fun hcode => absurd hcode hlimit

theorem EndsWithin.after_open (hs : EndsWithin codes s) {p : Purpose} (hm : p ∈ c.cycles)
    (ho : busOpen p s = .next t) : EndsWithin codes t := by
  obtain ⟨-, ⟨-, rfl⟩ | ⟨-, rfl⟩ | ⟨rx, -, rfl⟩⟩ := busOpen_next ho
  · exact hs.wait
  · exact .of_ending rfl (hc.busUnavailable p hm) nofun
  · exact .of_running rfl

/-- A trial cycle ends the command here without an error; the others go on to their transfer (R124). -/
theorem EndsWithin.after_configure (hs : EndsWithin codes s) {p : Purpose} (hm : p ∈ c.cycles)
    (ho : busConfigure p s = .next t) : EndsWithin codes t := by
  obtain ⟨-, ⟨-, rfl⟩ | ⟨-, rfl⟩ | ⟨rx, -, rfl⟩⟩ := busConfigure_next ho
  · exact hs.wait
  · exact .of_ending rfl (hc.busUnavailable p hm) nofun
  · cases p with
    | trial => exact .of_ending rfl (hc.success hm) nofun
    | probe | sample => exact .of_running rfl

theorem endsWithin_sampleReceived (hm : .sample ∈ c.cycles) (r : Response) (s : State) :
    EndsWithin codes (sampleReceived c r s) := by
  obtain ⟨-, h⟩ | ⟨-, h⟩ := sampleReceived_cases c r s <;> rw [h]
  · exact hc.sampled hm _ (writeRaw r s)
  · exact .of_ending rfl (hc.invalidResponse hm) nofun

theorem EndsWithin.after_transfer (hs : EndsWithin codes s) {p : Purpose} {tx : List Byte}
    {f : Response → State → State} (hm : p ∈ c.cycles) (hn : p ≠ .trial) (ho : busTransfer p tx f s = .next t)
    (hf : ∀ rx u, EndsWithin codes (f rx u)) : EndsWithin codes t := by
  obtain ⟨-, ⟨-, rfl⟩ | ⟨-, rfl⟩ | ⟨rx, -, rfl⟩⟩ := busTransfer_next ho
  · exact hs.wait
  · exact .of_ending rfl (hc.transferFailed p hm hn) nofun
  · exact hf rx _

theorem EndsWithin.after_runPlan (hs : EndsWithin codes s) (h : runPlan c s = .next t) : EndsWithin codes t := by
  obtain ⟨-, rfl⟩ | ⟨-, rfl⟩ | ⟨p, -, hm, ho⟩ | ⟨p, -, hm, ho⟩ | ⟨-, hm, ho⟩ | ⟨-, hm, ho⟩ | ⟨p, after, hp, -, ho⟩ |
    ⟨code, -, rfl⟩ := runPlan_next h
  · exact hs
  · exact endsWithin_checkStep hc s
  · exact hs.after_open hc hm ho
  · exact hs.after_configure hc hm ho
  · exact hs.after_transfer hc hm (by decide) ho fun rx u => hc.probed hm _ u
  · exact hs.after_transfer hc hm (by decide) ho fun rx u => endsWithin_sampleReceived hc hm rx u
  · exact hs.after_close hp ho
  · exact .of_running rfl

end

/-! ## The machine's steps -/

section
variable {s t : State} (hs : CodesFit s)
include hs

theorem CodesFit.congr (hcmd : t.cmdL = s.cmdL) (hphase : t.phase = s.phase) (hparams : t.params = s.params) :
    CodesFit t := by
  rw [codesFit_iff, runningCodes_congr hcmd]
  exact ((codesFit_iff s).mp hs).congr (congrArg endingCode hphase) hparams

theorem CodesFit.of_hostBlanked (h : hostBlanked t = hostBlanked s) : CodesFit t :=
  hs.congr (congrArg State.cmdL h :) (congrArg State.phase h :) (congrArg State.params h :)

theorem CodesFit.after_engineStep (h : engineStep s = .next t) : CodesFit t := by
  have hcmd : t.cmdL = s.cmdL := (congrArg State.cmdL (engineBlanked_engineStep h) :)
  rw [codesFit_iff, runningCodes_congr hcmd]
  rw [engineStep_eq_runPlan] at h
  exact ((codesFit_iff s).mp hs).after_runPlan (runningPlan_raises s) h

/-- An accepted command's end is not settled yet. -/
theorem CodesFit.after_writeCmd (v : Word) : CodesFit (writeCmd v s) := by
  obtain ⟨-, h⟩ | ⟨-, h⟩ := writeCmd_cases v s <;> rw [h]
  · exact hs.congr rfl rfl rfl
  · exact (codesFit_iff _).mpr (.of_running rfl)

end

/-! ## The statement -/

/-- Settles O58, by the five kinds of step. -/
theorem stepKeepsErrorCodesInTable : Obligations.StepKeepsErrorCodesInTable := by
  unfold Obligations.StepKeepsErrorCodesInTable
  intro s t _ hs h
  cases stepKind_of_step h with
  | engine u _ hu h => exact (hs.of_hostBlanked hu).after_engineStep h
  | reset rest _ h => exact (codesFit_iff t).mpr (.of_running (h ▸ rfl))
  | command v rest u _ hu h => exact h ▸ (hs.of_hostBlanked hu).after_writeCmd v
  | status v rest u _ hu h => exact h ▸ (hs.of_hostBlanked hu).congr rfl rfl rfl
  | host h => exact hs.of_hostBlanked h

end Sys2Proof.Machine
end
